-- ==== Sys2Proof/Word.lean ====
section
/-! DEFINITION. The word types of the model and their plainest arithmetic. -/

namespace Sys2Proof

/-- A byte of a host frame or of a loop frame. -/
abbrev Byte := BitVec 8

/-- The 16-bit frame check of R168. -/
abbrev Check := BitVec 16

/-- A node's 32-bit identity, or a probe prefix value; bit 31 is the most significant (R88, R106). -/
abbrev Ident := BitVec 32

/-- The byte that carries a count or a code. -/
abbrev byteOf (n : Nat) : Byte := BitVec.ofNat 8 n

end Sys2Proof
end

