-- ==== Sys2Proof/Syntax.lean ====
section
/-! DEFINITION. The commands of the part: one constructor for each row of spec/opcode_table.json. -/

namespace Sys2Proof

/-- What the loop receiver heard in one answer (R61): the bytes in the order they arrived, with no gap of more
than 20 µs between them, and the place of the first one that had no valid stop bit, counted from 0, if one had none. -/
structure LoopRx where
  bytes : List Byte
  stopFault : Option Nat
deriving DecidableEq, Repr

/-- The commands. A request command carries the request's tag and the body bytes that follow it (R169, R170), so
that a body of any length can be said. A node's answer carries ADDR, PIPE-SEQ and the payload of its frame (R173). -/
inductive Instr where
  /-- POWER_UP (R152): power is applied with the straps RATE1 and RATE0 at these levels. -/
  | powerUp (rate1 rate0 : Bool)
  /-- RESET_PIN_ASSERT (R152): RSTn is driven low. -/
  | resetPinAssert
  /-- RESET_PIN_RELEASE (R152): RSTn is released with the straps at these levels. -/
  | resetPinRelease (rate1 rate0 : Bool)
  /-- HOST_FRAME_DISCARD (R138): these bytes arrive on HRX, a frame that is discarded among them. -/
  | hostFrameDiscard (bytes : List Byte)
  /-- HOST_INTERBYTE_TIMEOUT (R137): these bytes arrive on HRX and 5 ms pass without another. -/
  | hostInterbyteTimeout (bytes : List Byte)
  /-- BAD_KIND_REQUEST (R142): a good frame whose KIND is this byte. -/
  | badKindRequest (kind tag : Byte) (fields : List Byte)
  | queryPart (tag : Byte) (fields : List Byte)
  /-- READ_STATUS (R148): flags. -/
  | readStatus (tag : Byte) (fields : List Byte)
  | restart (tag : Byte) (fields : List Byte)
  /-- SET_LOOP (R122): round period, reply window (2), try limit, loss limit, recall interval, auto-wake. -/
  | setLoop (tag : Byte) (fields : List Byte)
  | startLoop (tag : Byte) (fields : List Byte)
  | stopLoop (tag : Byte) (fields : List Byte)
  | restLoop (tag : Byte) (fields : List Byte)
  | wakeLoop (tag : Byte) (fields : List Byte)
  | lineReset (tag : Byte) (fields : List Byte)
  | sift (tag : Byte) (fields : List Byte)
  /-- READ_NODE (R102): address. -/
  | readNode (tag : Byte) (fields : List Byte)
  /-- DISMISS_NODE (R96): address. -/
  | dismissNode (tag : Byte) (fields : List Byte)
  /-- OPEN_PIPE (R26): node address, pipe number, direction, period, quota. -/
  | openPipe (tag : Byte) (fields : List Byte)
  /-- CLOSE_PIPE (R36): handle. -/
  | closePipe (tag : Byte) (fields : List Byte)
  /-- RESUME_PIPE (R35): handle. -/
  | resumePipe (tag : Byte) (fields : List Byte)
  /-- READ_PIPE (R38): handle. -/
  | readPipe (tag : Byte) (fields : List Byte)
  /-- SEND (R10): handle, flags, 1 to 64 data bytes. -/
  | send (tag : Byte) (fields : List Byte)
  /-- COLLECT (R12, R13): handle, maximum count, flags, release tag. -/
  | collect (tag : Byte) (fields : List Byte)
  /-- FLUSH (R14): handle. -/
  | flush (tag : Byte) (fields : List Byte)
  /-- ACK_NOTICES (R162): notice number (2). -/
  | ackNotices (tag : Byte) (fields : List Byte)
  /-- HOST_FRAME_SENT (R146): the last byte of the frame on HTX has been sent. -/
  | hostFrameSent
  /-- RESEND_TIMER_EXPIRY (R161). -/
  | resendTimerExpiry
  /-- ROUND_START (R45). -/
  | roundStart
  /-- RECALL_COUNTDOWN_EXPIRY (R48). -/
  | recallCountdownExpiry
  /-- SERVE_DUE_ENTRY (R53). -/
  | serveDueEntry
  /-- CALL_SENT (R64): the last byte of the call has been sent. -/
  | callSent
  /-- REPLY_WINDOW_EXPIRY (R64). -/
  | replyWindowExpiry
  /-- GARBLED_SETTLED (R65): this was heard, and more than 20 µs of quiet followed. -/
  | garbledSettled (heard : LoopRx)
  /-- GARBLE_LIMIT_EXPIRY (R64): 2100 µs have passed since activity began. -/
  | garbleLimitExpiry
  | data (addr pipeSeq : Byte) (payload : List Byte)
  | taken (addr pipeSeq : Byte) (payload : List Byte)
  | hold (addr pipeSeq : Byte) (payload : List Byte)
  | refuse (addr pipeSeq : Byte) (payload : List Byte)
  | cleared (addr pipeSeq : Byte) (payload : List Byte)
  | present (addr pipeSeq : Byte) (payload : List Byte)
  | dismissed (addr pipeSeq : Byte) (payload : List Byte)
  | ident (addr pipeSeq : Byte) (payload : List Byte)
  | adopted (addr pipeSeq : Byte) (payload : List Byte)
  /-- CONFIRM_SENT (R67). -/
  | confirmSent
  /-- TURNAROUND_END (R62). -/
  | turnaroundEnd
  /-- DRAIN_END (R129). -/
  | drainEnd
  /-- RESET_DRIVE_EXPIRY (R130): 20 ms of dominant drive have passed. -/
  | resetDriveExpiry
  /-- RESET_SETTLE_EXPIRY (R130): 10 ms of settle have passed. -/
  | resetSettleExpiry
  /-- REST_SENT (R131). -/
  | restSent
  /-- WAKE_SENT (R132). -/
  | wakeSent
  /-- WAKE_SETTLE_EXPIRY (R132). -/
  | wakeSettleExpiry
  /-- LINE_DOMINANT (R133): the line goes dominant, driven from outside the part. -/
  | lineDominant
  /-- LINE_RECESSIVE (R131): the line returns to recessive; the level lasted this many microseconds as the
  dominant timer measures it. -/
  | lineRecessive (lasted : Nat)
  /-- LINE_FAULT (R134): the dominant timer passes the limit for the loop state. -/
  | lineFault
deriving DecidableEq, Repr

end Sys2Proof
end

