-- ==== Sys2Proof/Decode.lean ====
section
/-! DEFINITION. The command a word spells by the bits of spec/opcode_table.json. No row of the table gives bits
("fields" is empty and no row has "fixed"): the part has no instruction words, so no word spells a command. -/

namespace Sys2Proof

/-- None of the 55 rows gives bits, so no word spells a command. -/
def decodeTableWord (_nbits _w : Nat) : Option Instr := none

end Sys2Proof
end

