-- ==== Sys2Proof/Config.lean ====
section
/-! DEFINITION. What the part fixes: the capacities, limits and defaults of the Principal numbers table.
The one value that an operation takes and the manual leaves open is a free value. -/

namespace Sys2Proof.Config

/-- R1: blocks in the pool. -/
abbrev poolBlocks : Nat := 96
/-- R1: the most payload bytes of a block. -/
abbrev blockPayload : Nat := 64
/-- R3, R10: a SEND is taken only while more than this many blocks are free. -/
abbrev sendReserve : Nat := 8
/-- R22: pipe handles 0 to 47. -/
abbrev maxPipes : Nat := 48
/-- R87: node addresses 1 to 30. -/
abbrev maxNodes : Nat := 30
/-- R139: the request window. -/
abbrev windowSize : Nat := 4
/-- R143: the recent-reply table. -/
abbrev recentSize : Nat := 8
/-- R154: the notice list. -/
abbrev noticeSize : Nat := 16
/-- R149, R155: counters and notice numbers end here. -/
abbrev max16 : Nat := 65535
/-- R105: the sift tallies stop here. -/
abbrev max8 : Nat := 255
/-- R90: the silence count stops here. -/
abbrev maxSilence : Nat := 32
/-- R169: the SYNC byte of a host frame. -/
abbrev sync : Byte := 0xE7#8
/-- R137: the body lengths a host frame may have. -/
abbrev minBody : Nat := 2
abbrev maxBody : Nat := 224
/-- R131: shortest and longest wake pulse, in microseconds. -/
abbrev wakePulseMin : Nat := 1000
abbrev wakePulseMax : Nat := 8000
/-- Principal numbers: 0 reaches unaddressed nodes, 31 all nodes. -/
abbrev unaddressed : Nat := 0
abbrev broadcast : Nat := 31

/-- R7: the bytes that an answer cut off by the 2100 µs limit or by a line fault had written in the catch block, a free
value for each such answer (log 18). -/
opaque bytesBeforeCut : Nat → List Byte

end Sys2Proof.Config
end

