-- ==== Sys2Proof/Machine/State.lean ====
section
/-! DEFINITION. The state of the part, block by block (00_scope.md, Blocks of the part), as plain data, with its
value after reset. A block of the pool is held as a record in the place where it stands, so its place (R1, R2) is
where the record is. -/

namespace Sys2Proof.Machine

/-! ## Block Pool -/

/-- R1: one of the 96 blocks. Its length is the number of its payload bytes. -/
structure Block where
  index : Nat
  payload : List Byte
  inFlight : Bool
  confirm : Option Byte
deriving DecidableEq, Repr

/-! ## Pipe Table -/

/-- R23: IN is node to host, OUT is host to node. -/
inductive Direction where
  | inbound
  | outbound
deriving DecidableEq, Repr

/-- R24. -/
inductive PipeState where
  | active
  | clearing
  | halted
  | faulted
  | closing
deriving DecidableEq, Repr

/-- R23: a pipe record, with the pipe's queue in the pool (R4), head first: the outbound queue of an OUT pipe, the
inbound queue of an IN pipe. `seq` is the expected bit of an IN pipe and the send bit of an OUT pipe. -/
structure Pipe where
  handle : Nat
  node : Nat
  number : Nat
  dir : Direction
  period : Nat
  quota : Nat
  state : PipeState
  countdown : Nat
  seq : Bool
  tries : Nat
  clearNeeded : Bool
  waitingReported : Bool
  transfers : Nat
  duplicates : Nat
  queue : List Block
deriving DecidableEq, Repr

/-! ## Node Table -/

/-- R89. -/
inductive NodeState where
  | enrolled
  | lost
  | dismissing
deriving DecidableEq, Repr

/-- R88: a node record. Its pipe handles are not stored (R22). -/
structure Node where
  addr : Nat
  identity : Ident
  state : NodeState
  silence : Nat
  dismissTries : Nat
deriving DecidableEq, Repr

/-! ## Round Scheduler -/

/-- R49: a due entry, its kind and target. -/
inductive DueEntry where
  | pipe (handle : Nat)
  | recall (addr : Nat)
  | dismiss (addr : Nat)
  | sift
deriving DecidableEq, Repr

/-! ## Loop Engine -/

/-- R62. -/
inductive EngineState where
  | idle
  | calling
  | awaiting
  | confirming
  | turnaround
deriving DecidableEq, Repr

/-- R53, R63: the calls that expect an answer. -/
inductive CallKind where
  | fetch
  | deliver
  | clear
  | ping
  | dismiss
  | probe
  | assign
deriving DecidableEq, Repr

/-- R64, R65: what the engine has heard since the reply window opened: nothing, activity on the line, or an answer
found unacceptable and not yet settled. -/
inductive Heard where
  | nothing
  | activity
  | unacceptable
deriving DecidableEq, Repr

/-- R62, R70, R71: whether a VALID DATA was accepted, and the sequence bit it carried. -/
structure DataVerdict where
  accepted : Bool
  seq : Bool
deriving DecidableEq, Repr

/-- R106: the `len` leading bits of an identity; every lower bit of `bits` is 0. -/
structure Prefix where
  len : Nat
  bits : Ident
deriving DecidableEq, Repr

/-- R173: a loop frame less its LEN and CRC, which follow from the rest. -/
structure LoopFrame where
  type : Byte
  addr : Byte
  pipeSeq : Byte
  payload : List Byte
deriving DecidableEq, Repr

/-- R62, R63: the transaction record. `addr` is the ADDR of the call, `answerFrom` the address its answer comes from
(R65, R109, R112), `identity` the identity its answer must carry (R92, R112), `window` the reply window in force at the
start of the call in microseconds. -/
structure Transaction where
  entry : DueEntry
  call : CallKind
  addr : Nat
  answerFrom : Nat
  pipe : Nat
  seq : Bool
  payload : List Byte
  identity : Option Ident
  probed : Option Prefix
  window : Nat
  heard : Heard
  verdict : Option DataVerdict
deriving DecidableEq, Repr

/-! ## Sift Unit -/

/-- R105. -/
inductive SiftState where
  | idle
  | probing
  | assigning
deriving DecidableEq, Repr

/-- R105, R111. -/
inductive HeldKind where
  | new
  | readopt
deriving DecidableEq, Repr

/-- R105: the held assignment. -/
structure Held where
  identity : Ident
  addr : Nat
  kind : HeldKind
  tries : Nat
deriving DecidableEq, Repr

/-- R105: the Sift Unit. The top of the probe stack is the head of `stack`. -/
structure SiftUnit where
  state : SiftState
  stack : List Prefix
  held : Option Held
  joined : Nat
  readopted : Nat
  conflicts : Nat
  unassigned : Nat
deriving DecidableEq, Repr

/-! ## Line Controller -/

/-- R120. -/
inductive LoopState where
  | off
  | resetting
  | stopped
  | running
  | draining
  | resting
  | waking
deriving DecidableEq, Repr

/-- The drain target (chapter 7): where DRAINING leads. -/
inductive DrainTarget where
  | stopped
  | resting
  | resetting
deriving DecidableEq, Repr

/-- R122: the loop parameters. The round period is in milliseconds, the reply window in microseconds. -/
structure Params where
  roundPeriod : Nat
  replyWindow : Nat
  tryLimit : Nat
  lossLimit : Nat
  recallInterval : Nat
  autoWake : Bool
deriving DecidableEq, Repr

/-- What the Line Controller itself does with the line, and so which of its timers runs (R130, R131, R132):
nothing, the REST broadcast, the 20 ms drive, the 10 ms settle, the settle run on past 10 ms under a dominant level,
the wait for recessive before WAKE, the WAKE broadcast, the 5 ms wake settle. -/
inductive LinePhase where
  | quiet
  | restFrame
  | resetDrive
  | resetSettle
  | settleExtended
  | wakeWait
  | wakeFrame
  | wakeSettle
deriving DecidableEq, Repr

/-! ## Notice Unit -/

/-- R152, R167. -/
inductive ReadyCause where
  | power
  | pin
  | restart
deriving DecidableEq, Repr

/-- R164: the twelve notice kinds with their fields. -/
inductive NoticeBody where
  | ready (cause : ReadyCause)
  | nodeJoined (addr : Nat) (identity : Ident)
  | nodeLost (addr : Nat)
  /-- `readopt` is the cause: READOPT if set, RECALL if clear. -/
  | nodeBack (addr : Nat) (readopt : Bool)
  | pipeReady (handle : Nat)
  /-- `duringClear` is the field during: CLEAR if set, TRANSFER if clear. -/
  | pipeHalted (handle : Nat) (duringClear : Bool)
  /-- `garbled` is the last outcome: GARBLED if set, NONE if clear. -/
  | pipeFaulted (handle : Nat) (garbled : Bool)
  | dataWaiting (handle : Nat) (queued : Nat)
  /-- `discarded` is the outcome: DISCARDED if set, TAKEN if clear. -/
  | delivered (handle : Nat) (tag : Byte) (discarded : Bool)
  | wakeSeen
  | lineFault (during : LoopState)
  | noticesMissed (count : Nat)
deriving DecidableEq, Repr

/-- R154: a notice in the list. -/
structure Notice where
  number : Nat
  body : NoticeBody
  unsent : Bool
  resend : Bool
deriving DecidableEq, Repr

/-! ## Request Handler -/

/-- R171: the reply codes. -/
inductive Code where
  | ok
  | badLength
  | badKind
  | badField
  | tagInUse
  | windowFull
  | loopState
  | busy
  | noNode
  | noPipe
  | pipeExists
  | tableFull
  | noBlock
  | quota
  | wrongDirection
  | pipeState
  | noAnswer
  | cancelled
  | lineFault
  | notHeld
  | released
deriving DecidableEq, Repr

/-- R12, R167: the release outcome of a COLLECT. -/
inductive ReleaseOutcome where
  | notAsked
  | released
  | notFound
deriving DecidableEq, Repr

/-- R149: the seven counters, in the order READ-STATUS reports them. -/
structure Counters where
  framesRejected : Nat
  requestsDropped : Nat
  callsUnanswered : Nat
  answersGarbled : Nat
  roundOverruns : Nat
  fetchStarvations : Nat
  lineFaults : Nat
deriving DecidableEq, Repr

/-- R148: the fields of a READ-STATUS reply. -/
structure StatusReport where
  loop : LoopState
  siftActive : Bool
  freeCount : Nat
  retainedCount : Nat
  nodeCount : Nat
  pipeCount : Nat
  dueCount : Nat
  counters : Counters
deriving DecidableEq, Repr

/-- R38: what READ-PIPE reports of a pipe record, and the length of its queue. -/
structure PipeReport where
  handle : Nat
  node : Nat
  number : Nat
  dir : Direction
  period : Nat
  quota : Nat
  state : PipeState
  countdown : Nat
  seq : Bool
  tries : Nat
  clearNeeded : Bool
  waitingReported : Bool
  transfers : Nat
  duplicates : Nat
  queued : Nat
deriving DecidableEq, Repr

/-- R171: the fields of a reply after its 4-byte header. A COLLECT reply's blocks are not here: they are read from
the retained set as the frame begins (R8). -/
inductive ReplyFields where
  | none
  | queryPart
  | readStatus (report : StatusReport)
  | lineReset (pipes blocks : Nat)
  | sift (joined readopted conflicts unassigned : Nat)
  /-- The state is absent in a refused reply. -/
  | readNode (state : Option NodeState) (identity : Ident) (silence : Nat) (handles : List Nat)
  | dismissNode (pipes : Nat)
  /-- The handle is absent in a refused reply. -/
  | openPipe (handle : Option Nat)
  | closePipe (blocks : Nat)
  | resumePipe (state : Option PipeState)
  /-- The report is absent in a refused reply. -/
  | readPipe (report : Option PipeReport)
  | send (queued : Nat)
  | collect (handle : Byte) (release : ReleaseOutcome) (count remaining : Nat)
  | flush (blocks : Nat)
  | ackNotices (removed : Nat)
deriving DecidableEq, Repr

/-- R142: a reply as its owner composes it. `kind` is the reply's own KIND byte. -/
structure Reply where
  kind : Byte
  tag : Byte
  code : Code
  fields : ReplyFields
deriving DecidableEq, Repr

/-- R142: the block a request is dispatched to. -/
inductive Owner where
  | hostPort
  | lineController
  | siftUnit
  | nodeTable
  | pipeTable
  | blockPool
  | noticeUnit
deriving DecidableEq, Repr

/-- The later event a deferred reply waits for (R139): the loop-control slot's change of state, the end of the sift,
the dismissal of a node, the end of a closing pipe's transaction. -/
inductive Waits where
  | loopControl
  | sift
  | dismiss (addr : Nat)
  | close (handle : Nat)
deriving DecidableEq, Repr

/-- R139. -/
inductive WindowState where
  | executing
  | deferred (on : Waits)
  | replyQueued
deriving DecidableEq, Repr

/-- R139: an entry of the request window. -/
structure WindowEntry where
  tag : Byte
  kind : Byte
  crc : Check
  owner : Owner
  state : WindowState
deriving DecidableEq, Repr

/-- R143: an entry of the recent-reply table. -/
structure RecentEntry where
  tag : Byte
  kind : Byte
  crc : Check
  reply : Reply
  retained : List Block
  released : Bool
deriving DecidableEq, Repr

/-- R146: a reply frame waiting in the reply queue or being sent. `restart` marks the RESTART reply (R150). -/
structure QueuedReply where
  reply : Reply
  repeated : Bool
  restart : Bool
deriving DecidableEq, Repr

/-- R121: the loop-state requests. -/
inductive LoopRequest where
  | start
  | stop
  | rest
  | wake
  | reset
deriving DecidableEq, Repr

/-- R121: the request in the loop-control slot, and what its line reset has removed so far (R128). -/
structure LoopSlot where
  request : LoopRequest
  pipes : Nat
  blocks : Nat
deriving DecidableEq, Repr

/-! ## Host Port -/

/-- R137. -/
inductive RxState where
  | hunt
  | length
  | body
  | crc
deriving DecidableEq, Repr

/-- R137: the frame receiver: its state, the bytes stored from the SYNC onward, and whether the inter-byte timer runs. -/
structure Receiver where
  state : RxState
  stored : List Byte
  timer : Bool
deriving DecidableEq, Repr

/-- R146: which kind of frame the transmitter is sending. -/
inductive TxKind where
  | refusal
  | reply
  | notice (number : Nat)
deriving DecidableEq, Repr

/-- R146: the frame being sent on HTX, its bytes composed when it began. -/
structure TxFrame where
  kind : TxKind
  bytes : List Byte
deriving DecidableEq, Repr

/-- R136: the host rates, in bit/s. -/
inductive HostRate where
  | r115200
  | r230400
  | r460800
  | r921600
deriving DecidableEq, Repr

/-! ## The whole part -/

/-- The state of the part. -/
structure State where
  /-- The commands that wait, the first to be taken at the head (the model's own field). -/
  pending : List Instr
  /-- How many free values have been taken (the model's own field, log 18). -/
  draws : Nat
  -- pins and reset (R136, R152)
  /-- RSTn is high. While it is low the part is held in reset. -/
  rstHigh : Bool
  /-- The part has not yet left its first reset after power was applied. -/
  cold : Bool
  rate1 : Bool
  rate0 : Bool
  hostRate : HostRate
  /-- Something other than the part drives the loop dominant. -/
  lineDominant : Bool
  -- Host Port (R137, R146)
  rx : Receiver
  /-- The frame on HTX; none while HTX idles. -/
  tx : Option TxFrame
  replyQueue : List QueuedReply
  counters : Counters
  -- Request Handler (R139 to R143, R121, R150)
  window : List WindowEntry
  refusal : Option Reply
  recent : List RecentEntry
  loopSlot : Option LoopSlot
  /-- A RESTART has been admitted and has not yet taken effect. -/
  restartPending : Bool
  -- Block Pool (R3, R7; the queues stand in the pipe records, the retained sets in the recent-reply table)
  free : List Block
  catchSlot : Option Block
  -- Pipe Table (R22), in handle order
  pipes : List Pipe
  -- Node Table (R87, R101), in address order
  nodes : List Node
  barred : List Nat
  -- Round Scheduler (R44, R48, R49)
  roundTimer : Bool
  recallCountdown : Nat
  due : List DueEntry
  -- Loop Engine (R62)
  engine : EngineState
  txn : Option Transaction
  /-- The frame the part is sending on LA/LB. -/
  loopTx : Option LoopFrame
  -- Sift Unit (R105)
  sift : SiftUnit
  -- Line Controller (R120)
  loop : LoopState
  drainTarget : Option DrainTarget
  resume : Bool
  params : Params
  phase : LinePhase
  /-- The dominant timer runs. -/
  domTimer : Bool
  -- Notice Unit (R154, R155, R157, R160)
  notices : List Notice
  nextNumber : Nat
  missed : Nat
  resendTimer : Bool
deriving DecidableEq, Repr

/-- The conditions that stop the part. The manual gives none: each command has its effect in every state, or none
where its event cannot take place. No constructor, so no command can fault. -/
inductive Fault where
deriving DecidableEq, Repr

/-- The ways a command can be without a meaning. -/
inductive Refusal where
  /-- Raised by an arm of exec whose command has no meaning yet; safe: the machine stops where the part goes on. -/
  | notModelled (mnemonic : String)
deriving DecidableEq, Repr

/-- R149: all seven counters at 0. -/
def zeroCounters : Counters := ⟨0, 0, 0, 0, 0, 0, 0⟩

/-- R120: the loop parameters after reset. -/
def defaultParams : Params := ⟨10, 200, 3, 6, 64, false⟩

/-- R105: the Sift Unit after reset. -/
def idleSift : SiftUnit := ⟨.idle, [], none, 0, 0, 0, 0⟩

/-- R3, R19: all 96 blocks free in ascending order. The payload of a block on the free list has no effect (R1);
DESIGN CHOICE: it is empty (log 3). -/
def freshPool : List Block := (List.range Config.poolBlocks).map fun i => ⟨i, [], false, none⟩

/-- The part as it has left its power-up reset (R152): every block in its power-up state, READY number 1 with cause
POWER in the notice list, and the transmitter, which found it unsent, sending its frame. DESIGN CHOICE: the straps
read 00 and the line is recessive (log 2). -/
def State.reset : State where
  pending := []
  draws := 0
  rstHigh := true
  cold := false
  rate1 := false
  rate0 := false
  hostRate := .r115200
  lineDominant := false
  rx := ⟨.hunt, [], false⟩
  tx := some ⟨.notice 1, [0xE7#8, 0x05#8, 0x41#8, 0x01#8, 0x00#8, 0x00#8, 0x01#8, 0x7B#8, 0x12#8]⟩
  replyQueue := []
  counters := zeroCounters
  window := []
  refusal := none
  recent := []
  loopSlot := none
  restartPending := false
  free := freshPool
  catchSlot := none
  pipes := []
  nodes := []
  barred := []
  roundTimer := false
  recallCountdown := 64
  due := []
  engine := .idle
  txn := none
  loopTx := none
  sift := idleSift
  loop := .off
  drainTarget := none
  resume := false
  params := defaultParams
  phase := .quiet
  domTimer := false
  notices := [⟨1, .ready .power, false, false⟩]
  nextNumber := 2
  missed := 0
  resendTimer := false

end Sys2Proof.Machine
end

