-- ==== Sys2Proof/Machine/Flags.lean ====
section
/-! DEFINITION. Saturating counters, and the conditions the rules of the part test. -/

namespace Sys2Proof.Machine

/-- R149, R34, R157: a 16-bit count that stops at 65535. -/
def sat16 (n : Nat) : Nat := min (n + 1) Config.max16

/-- R105: a sift tally, which stops at 255. -/
def sat8 (n : Nat) : Nat := min (n + 1) Config.max8

/-- R90: the silence count, which stops at 32. -/
def satSilence (n : Nat) : Nat := min (n + 1) Config.maxSilence

/-- R155: from 65535 the next notice number goes to 1. -/
def nextNotice (n : Nat) : Nat := if n = Config.max16 then 1 else n + 1

/-- R105: a sift is active while the unit is not IDLE. -/
def siftActive (s : State) : Bool := s.sift.state ≠ .idle

/-- R24: a transaction on the pipe is in flight. -/
def pipeInFlight (h : Nat) (s : State) : Bool :=
  match s.txn with
  | some t => t.entry = .pipe h
  | none => false

/-- R94: a PING of the node is in flight. -/
def pingInFlight (a : Nat) (s : State) : Bool :=
  match s.txn with
  | some t => t.entry = .recall a
  | none => false

/-- R117: a sift call is in flight. -/
def siftCallInFlight (s : State) : Bool :=
  match s.txn with
  | some t => t.entry = .sift
  | none => false

/-- R53: the line is free. -/
def lineFree (s : State) : Bool := s.loop = .running ∧ s.engine = .idle

/-- R120, R133: a dominant level is watched in this state. -/
def lineWatched (s : State) : Bool :=
  match s.loop with
  | .running => true
  | .draining => true
  | .resting => true
  | .waking => true
  | .resetting => s.phase = .resetSettle ∨ s.phase = .settleExtended
  | .off => false
  | .stopped => false

/-- R131: a dominant level of this length, ended in RESTING, is a wake pulse. -/
def isWakePulse (lasted : Nat) : Bool := Config.wakePulseMin ≤ lasted ∧ lasted ≤ Config.wakePulseMax

/-- R24, R47: the condition a pipe's own state sets on its being made due. -/
def pipeReadyForDue (p : Pipe) : Bool :=
  match p.state, p.dir with
  | .clearing, _ => true
  | .active, .inbound => p.countdown = 0 ∧ p.queue.length < p.quota
  | .active, .outbound => p.countdown = 0 ∧ p.queue ≠ []
  | .halted, _ => false
  | .faulted, _ => false
  | .closing, _ => false

/-- R136, pin table: RATE1 and RATE0 choose the host rate. -/
def rateOf : Bool → Bool → HostRate
  | false, false => .r115200
  | false, true => .r230400
  | true, false => .r460800
  | true, true => .r921600

end Sys2Proof.Machine
end

