-- ==== Sys2Proof/Machine/Operands.lean ====
section
/-! DEFINITION. Message formats (chapter 10): the frame check, the layouts of host frames, request fields, replies,
notices and loop frames, and the loop receiver's reading of an answer (R61). -/

namespace Sys2Proof.Machine

/-! ## The check (R168) -/

/-- R168: shift the register left, and combine it with 8005h where the bit shifted out is 1. -/
def crcShift (reg : Check) : Check :=
  if reg.msb then (reg <<< 1) ^^^ 0x8005#16 else reg <<< 1

/-- `n` shifts of the register. -/
def crcShifts : Nat → Check → Check
  | 0, reg => reg
  | n + 1, reg => crcShifts n (crcShift reg)

/-- R168: take one byte, most significant bit first. -/
def crcByte (reg : Check) (b : Byte) : Check :=
  crcShifts 8 (reg ^^^ (b.setWidth 16 <<< 8))

/-- R168: the check of the covered bytes, the register starting at 0000h. -/
def crcOf (bytes : List Byte) : Check := bytes.foldl crcByte 0#16

/-! ## Multi-byte fields, least significant byte first (R166) -/

/-- The low and the high byte of a 16-bit field. -/
def bytesOf16 (n : Nat) : List Byte := [byteOf n, byteOf (n / 256)]

/-- A frame check, low byte first. -/
def bytesOfCheck (c : Check) : List Byte := bytesOf16 c.toNat

/-- R166: an identity or prefix value: bits 7-0, 15-8, 23-16, 31-24. -/
def bytesOfIdent (i : Ident) : List Byte :=
  [i.extractLsb' 0 8, i.extractLsb' 8 8, i.extractLsb' 16 8, i.extractLsb' 24 8]

/-- R166: a 16-bit field as received. -/
def nat16 (lo hi : Byte) : Nat := lo.toNat + 256 * hi.toNat

/-- R166: an identity as received. -/
def identOf (b0 b1 b2 b3 : Byte) : Ident :=
  BitVec.ofNat 32 (b0.toNat + 256 * b1.toNat + 65536 * b2.toNat + 16777216 * b3.toNat)

/-- R166: only bit 0 of a flags byte has a meaning. -/
def flagBit (flags : Byte) : Bool := flags.getLsbD 0

/-- R167: a yes/no field. -/
def byteOfBool (b : Bool) : Byte := if b then 0x01#8 else 0x00#8

/-! ## Values of enumerated fields (R167, R171) -/

def codeOfLoopState : LoopState → Byte
  | .off => 0x01#8
  | .resetting => 0x02#8
  | .stopped => 0x03#8
  | .running => 0x04#8
  | .draining => 0x05#8
  | .resting => 0x06#8
  | .waking => 0x07#8

def codeOfPipeState : PipeState → Byte
  | .active => 0x01#8
  | .clearing => 0x02#8
  | .halted => 0x03#8
  | .faulted => 0x04#8
  | .closing => 0x05#8

def codeOfNodeState : NodeState → Byte
  | .enrolled => 0x01#8
  | .lost => 0x02#8
  | .dismissing => 0x03#8

def codeOfDirection : Direction → Byte
  | .inbound => 0x00#8
  | .outbound => 0x01#8

def codeOfRelease : ReleaseOutcome → Byte
  | .notAsked => 0x00#8
  | .released => 0x01#8
  | .notFound => 0x02#8

def codeOfReadyCause : ReadyCause → Byte
  | .power => 0x01#8
  | .pin => 0x02#8
  | .restart => 0x03#8

/-- R171: the reply codes; 11h is unused. -/
def byteOfCode : Code → Byte
  | .ok => 0x00#8
  | .badLength => 0x01#8
  | .badKind => 0x02#8
  | .badField => 0x03#8
  | .tagInUse => 0x04#8
  | .windowFull => 0x05#8
  | .loopState => 0x06#8
  | .busy => 0x07#8
  | .noNode => 0x08#8
  | .noPipe => 0x09#8
  | .pipeExists => 0x0A#8
  | .tableFull => 0x0B#8
  | .noBlock => 0x0C#8
  | .quota => 0x0D#8
  | .wrongDirection => 0x0E#8
  | .pipeState => 0x0F#8
  | .noAnswer => 0x10#8
  | .cancelled => 0x12#8
  | .lineFault => 0x13#8
  | .notHeld => 0x14#8
  | .released => 0x15#8

/-! ## Host frames (R169) -/

/-- R169: SYNC, LEN, the body, and the check of LEN and body. LEN is one byte. -/
def hostFrame (body : List Byte) : List Byte :=
  Config.sync :: byteOf body.length :: body ++ bytesOfCheck (crcOf (byteOf body.length :: body))

/-! ## Request kinds and body lengths (R170) -/

def kindQueryPart : Byte := 0x01#8
def kindReadStatus : Byte := 0x02#8
def kindRestart : Byte := 0x03#8
def kindSetLoop : Byte := 0x04#8
def kindStartLoop : Byte := 0x05#8
def kindStopLoop : Byte := 0x06#8
def kindRestLoop : Byte := 0x07#8
def kindWakeLoop : Byte := 0x08#8
def kindLineReset : Byte := 0x09#8
def kindSift : Byte := 0x0A#8
def kindReadNode : Byte := 0x0B#8
def kindDismissNode : Byte := 0x0C#8
def kindOpenPipe : Byte := 0x0D#8
def kindClosePipe : Byte := 0x0E#8
def kindResumePipe : Byte := 0x0F#8
def kindReadPipe : Byte := 0x10#8
def kindSend : Byte := 0x11#8
def kindCollect : Byte := 0x12#8
def kindFlush : Byte := 0x13#8
def kindAckNotices : Byte := 0x14#8

/-- R142: a reply's KIND is the request's plus 80h, or FFh where the request's lies outside 01h to 14h. -/
def replyKind (kind : Byte) : Byte :=
  if 1 ≤ kind.toNat ∧ kind.toNat ≤ 0x14 then kind + 0x80#8 else 0xFF#8

/-- R142: the block a request kind is dispatched to. For a kind outside the table, which no block is given, the value
is the Host Port and Request Handler (DESIGN CHOICE, log entry 20). -/
def ownerOf (kind : Byte) : Owner :=
  let k := kind.toNat
  if k = 0 then .hostPort
  else if k ≤ 0x03 then .hostPort
  else if k ≤ 0x09 then .lineController
  else if k = 0x0A then .siftUnit
  else if k ≤ 0x0C then .nodeTable
  else if k ≤ 0x10 then .pipeTable
  else if k ≤ 0x13 then .blockPool
  else if k = 0x14 then .noticeUnit
  else .hostPort

/-! ## Reply bodies (R171) -/

/-- R171: the seven counters, two bytes each. -/
def encodeCounters (c : Counters) : List Byte :=
  bytesOf16 c.framesRejected ++ bytesOf16 c.requestsDropped ++ bytesOf16 c.callsUnanswered ++
  bytesOf16 c.answersGarbled ++ bytesOf16 c.roundOverruns ++ bytesOf16 c.fetchStarvations ++ bytesOf16 c.lineFaults

/-- R171: the handle list of READ-NODE has four bytes; those beyond the number of pipes are unused. -/
def padHandles (handles : List Nat) : List Byte :=
  ((handles.map byteOf) ++ [0#8, 0#8, 0#8, 0#8]).take 4

/-- R38, R171: the fields of a READ-PIPE reply. -/
def encodePipe (p : PipeReport) : List Byte :=
  [byteOf p.handle, byteOf p.node, byteOf p.number, codeOfDirection p.dir, byteOf p.period, byteOf p.quota,
   codeOfPipeState p.state, byteOf p.countdown, byteOfBool p.seq, byteOf p.tries, byteOfBool p.clearNeeded,
   byteOfBool p.waitingReported] ++ bytesOf16 p.transfers ++ bytesOf16 p.duplicates ++ [byteOf p.queued]

/-- R171: the fields of a reply after its header, less the blocks of a COLLECT. -/
def encodeFields : ReplyFields → List Byte
  | .none => []
  | .queryPart => [0xB0#8, 0x30#8, 0x01#8, 96#8, 64#8, 48#8, 30#8, 4#8, 16#8]
  | .readStatus r =>
    [codeOfLoopState r.loop, byteOfBool r.siftActive, byteOf r.freeCount, byteOf r.retainedCount, byteOf r.nodeCount,
     byteOf r.pipeCount, byteOf r.dueCount] ++ encodeCounters r.counters
  | .lineReset pipes blocks => [byteOf pipes, byteOf blocks]
  | .sift joined readopted conflicts unassigned =>
    [byteOf joined, byteOf readopted, byteOf conflicts, byteOf unassigned]
  | .readNode state identity silence handles =>
    ((state.map codeOfNodeState).getD 0#8 :: bytesOfIdent identity) ++ [byteOf silence, byteOf handles.length] ++
      padHandles handles
  | .dismissNode pipes => [byteOf pipes]
  | .openPipe handle => [(handle.map byteOf).getD 0xFF#8]
  | .closePipe blocks => [byteOf blocks]
  | .resumePipe state => [(state.map codeOfPipeState).getD 0#8]
  | .readPipe report => (report.map encodePipe).getD (List.replicate 17 0#8)
  | .send queued => [byteOf queued]
  | .collect handle release count remaining => [handle, codeOfRelease release, byteOf count, byteOf remaining]
  | .flush blocks => [byteOf blocks]
  | .ackNotices removed => [byteOf removed]

/-- R171: each block of a COLLECT reply, its length and then its payload. -/
def encodeBlocks (blocks : List Block) : List Byte :=
  blocks.flatMap fun b => byteOf b.payload.length :: b.payload

/-- R169, R171: the body of a reply; bit 0 of FLAGS is the repeat flag. -/
def encodeReply (r : Reply) (repeated : Bool) (blocks : List Block) : List Byte :=
  [r.kind, r.tag, byteOfCode r.code, byteOfBool repeated] ++ encodeFields r.fields ++ encodeBlocks blocks

/-! ## Notice bodies (R172) -/

/-- R172: a notice's KIND byte and its fields from offset 4. -/
def encodeNoticeBody : NoticeBody → Byte × List Byte
  | .ready cause => (0x41#8, [codeOfReadyCause cause])
  | .nodeJoined addr identity => (0x42#8, byteOf addr :: bytesOfIdent identity)
  | .nodeLost addr => (0x43#8, [byteOf addr])
  | .nodeBack addr readopt => (0x44#8, [byteOf addr, if readopt then 0x02#8 else 0x01#8])
  | .pipeReady handle => (0x45#8, [byteOf handle])
  | .pipeHalted handle duringClear => (0x46#8, [byteOf handle, if duringClear then 0x02#8 else 0x01#8])
  | .pipeFaulted handle garbled => (0x47#8, [byteOf handle, if garbled then 0x02#8 else 0x01#8])
  | .dataWaiting handle queued => (0x48#8, [byteOf handle, byteOf queued])
  | .delivered handle tag discarded => (0x49#8, [byteOf handle, tag, if discarded then 0x02#8 else 0x01#8])
  | .wakeSeen => (0x4A#8, [])
  | .lineFault during => (0x4B#8, [codeOfLoopState during])
  | .noticesMissed count => (0x4C#8, bytesOf16 count)

/-- R159, R169: the body of a notice; bit 0 of FLAGS is the resend flag. -/
def encodeNotice (n : Notice) : List Byte :=
  let (kind, fields) := encodeNoticeBody n.body
  kind :: bytesOf16 n.number ++ [byteOfBool n.resend] ++ fields

/-! ## Loop frames (R173) -/

/-- R173: the type codes of the frames the part sends. -/
def typeOfCall : CallKind → Byte
  | .fetch => 0x10#8
  | .deliver => 0x11#8
  | .clear => 0x13#8
  | .ping => 0x14#8
  | .dismiss => 0x15#8
  | .probe => 0x16#8
  | .assign => 0x17#8

def typeConfirm : Byte := 0x12#8
def typeRest : Byte := 0x18#8
def typeWake : Byte := 0x19#8

/-- R173: the type codes of the frames nodes send. -/
def typeData : Byte := 0x20#8
def typeTaken : Byte := 0x21#8
def typeHold : Byte := 0x22#8
def typeRefuse : Byte := 0x23#8
def typeCleared : Byte := 0x24#8
def typePresent : Byte := 0x25#8
def typeDismissed : Byte := 0x26#8
def typeIdent : Byte := 0x27#8
def typeAdopted : Byte := 0x28#8

/-- R166: bits 1-0 of PIPE-SEQ carry the pipe number and bit 7 the sequence bit. -/
def pipeSeqByte (pipe : Nat) (seq : Bool) : Byte :=
  (byteOf pipe &&& 0x03#8) ||| (if seq then 0x80#8 else 0x00#8)

/-- The pipe number in a PIPE-SEQ byte; the unused bits are ignored. -/
def pipeNumberOf (ps : Byte) : Nat := (ps &&& 0x03#8).toNat

/-- The sequence bit in a PIPE-SEQ byte. -/
def seqBitOf (ps : Byte) : Bool := ps.getLsbD 7

/-- R173: the covered bytes of a loop frame: TYPE, ADDR, PIPE-SEQ, LEN and payload. -/
def loopCovered (f : LoopFrame) : List Byte :=
  f.type :: f.addr :: f.pipeSeq :: byteOf f.payload.length :: f.payload

/-- R173: the bytes of a loop frame on the line. -/
def encodeLoop (f : LoopFrame) : List Byte := loopCovered f ++ bytesOfCheck (crcOf (loopCovered f))

/-- R61: one of the first `n` bytes heard had no valid stop bit. -/
def faultWithin (n : Nat) (rx : LoopRx) : Bool := rx.stopFault.any fun k => k < n

/-- R61: the frame in what the loop receiver heard, or none where it is faulty: one of its bytes without a valid stop
bit, LEN above 64, fewer than 6 + LEN bytes, or a CRC that differs. Bytes past the expected count are not read. -/
def readLoop (rx : LoopRx) : Option LoopFrame :=
  match rx.bytes with
  | type :: addr :: ps :: len :: rest =>
    let payload := rest.take len.toNat
    if faultWithin (len.toNat + 6) rx ∨ Config.blockPayload < len.toNat ∨ rest.length < len.toNat + 2 then none
    else if bytesOfCheck (crcOf (type :: addr :: ps :: len :: payload)) = (rest.drop len.toNat).take 2 then
      some ⟨type, addr, ps, payload⟩
    else none
  | _ => none

/-- R109: a prefix covers an identity when the leading bits agree. -/
def prefixCovers (p : Prefix) (i : Ident) : Bool :=
  (i >>> (32 - p.len)) == (p.bits >>> (32 - p.len))

/-- R106: the prefix followed by one more bit. -/
def extendPrefix (p : Prefix) (bit : Bool) : Prefix :=
  ⟨p.len + 1, if bit then p.bits ||| (1#32 <<< (31 - p.len)) else p.bits⟩

end Sys2Proof.Machine
end

