-- ==== Sys2Proof/Machine/Ops.lean ====
section
/-! DEFINITION. The named operations over the tables, queues and lists of the part: notices, moves of blocks, pipe
and node records, the due list, replies and the transmitter, and the power-up state. -/

namespace Sys2Proof.Machine

/-! ## Tables -/

/-- Change the first record that `hit` names. -/
def updFirst {α : Type} (hit : α → Bool) (f : α → α) : List α → List α
  | [] => []
  | x :: xs => if hit x then f x :: xs else x :: updFirst hit f xs

/-- Insert before the first element with a larger key. -/
def insertBy {α : Type} (key : α → Nat) (x : α) : List α → List α
  | [] => [x]
  | y :: ys => if key x < key y then x :: y :: ys else y :: insertBy key x ys

/-- R22: the pipe that bears a handle. -/
def findPipe (h : Nat) (s : State) : Option Pipe := s.pipes.find? fun p => p.handle == h

/-- R87: the node record at an address. -/
def findNode (a : Nat) (s : State) : Option Node := s.nodes.find? fun n => n.addr == a

/-- Change the record of a pipe. -/
def updPipe (h : Nat) (f : Pipe → Pipe) (s : State) : State :=
  { s with pipes := updFirst (fun p => p.handle == h) f s.pipes }

/-- Change the record of a node. -/
def updNode (a : Nat) (f : Node → Node) (s : State) : State :=
  { s with nodes := updFirst (fun n => n.addr == a) f s.nodes }

/-- R22: the handles of a node's pipes, in handle order. -/
def handlesOf (a : Nat) (s : State) : List Nat := (s.pipes.filter fun p => p.node == a).map (·.handle)

/-- Do something for each element, in order. -/
def forEach {α : Type} (f : α → State → State) : List α → State → State
  | [], s => s
  | x :: xs, s => forEach f xs (f x s)

/-! ## Notices (R156) -/

/-- R156: a notice asked for is stored, where the list holds fewer than 16. -/
def noticeFits (s : State) : Bool := s.notices.length < Config.noticeSize

/-- R155, R156, R157: store the notice at the tail with the next number, or miss and count it. -/
def notify (b : NoticeBody) (s : State) : State :=
  if noticeFits s then
    { s with notices := s.notices ++ [⟨s.nextNumber, b, true, false⟩], nextNumber := nextNotice s.nextNumber }
  else
    { s with missed := sat16 s.missed }

/-! ## Moves of blocks (R2) -/

/-- R1, R17: a block that returns to the free list loses its mark and its confirm tag. -/
def Block.release (b : Block) : Block := { b with inFlight := false, confirm := none }

/-- R3: blocks join the free-list tail in the order given. -/
def freeBlocks (bs : List Block) (s : State) : State :=
  { s with free := s.free ++ bs.map Block.release }

/-- R11: the DELIVERED notice of a block that leaves its outbound queue, if it bears a confirm tag. -/
def notifyDelivered (h : Nat) (discarded : Bool) (b : Block) (s : State) : State :=
  match b.confirm with
  | some tag => notify (.delivered h tag discarded) s
  | none => s

/-- R18: one block of a discarded queue. -/
def discardBlock (h : Nat) (b : Block) (s : State) : State :=
  notifyDelivered h true b (freeBlocks [b] s)

/-- R11, R18: discard blocks of a pipe, head first. -/
def discardBlocks (h : Nat) (bs : List Block) (s : State) : State := forEach (discardBlock h) bs s

/-- R18, R22: discard a pipe's queue and take its record out of the table. -/
def removePipe (h : Nat) (s : State) : State :=
  match findPipe h s with
  | some p => discardBlocks h p.queue { s with pipes := s.pipes.eraseP fun q => q.handle == h }
  | none => s

/-- R41, R42: remove pipes in the order given. -/
def removePipes (hs : List Nat) (s : State) : State := forEach removePipe hs s

/-- The blocks in all queues. -/
def queuedBlocks (s : State) : Nat := (s.pipes.map fun p => p.queue.length).sum

/-- R8, R21: the blocks in all retained sets. -/
def retainedCount (s : State) : Nat := (s.recent.map fun e => e.retained.length).sum

/-! ## The due list (R49 to R52, R56) -/

/-- R49: append an entry; one already on the list is not appended again. -/
def appendDue (e : DueEntry) (s : State) : State :=
  if e ∈ s.due then s else { s with due := s.due ++ [e] }

/-- R52: take an entry out wherever it stands. -/
def removeDue (e : DueEntry) (s : State) : State := { s with due := s.due.filter fun x => x ≠ e }

/-- R52: take out the PIPE entries of all a node's pipes. -/
def removePipeEntries (a : Nat) (s : State) : State :=
  { s with due := s.due.filter fun x => x ∉ (handlesOf a s).map DueEntry.pipe }

/-- R46: set a pipe's countdown. -/
def setCountdown (h n : Nat) (s : State) : State := updPipe h (fun p => { p with countdown := n }) s

/-- R46, R56, R57: a dropped PIPE entry sets its pipe's countdown to 0. R22 and R43 say that a drain and a line fault
change no record; R23 leaves how the countdown changes to the chapter of R46, R56 and R57 (DEDUCED, log entry 19). -/
def dropDueEntry (e : DueEntry) (s : State) : State :=
  match e with
  | .pipe h => setCountdown h 0 s
  | .recall _ => s
  | .dismiss _ => s
  | .sift => s

/-- R56, R57: clear the due list. -/
def clearDue (s : State) : State := forEach dropDueEntry s.due { s with due := [] }

/-! ## Replies (R142, R143, R144) -/

/-- R9, R143: push the oldest entry out of a full recent-reply table, freeing its retained set. -/
def evictOldest (s : State) : State :=
  match s.recent with
  | e :: es => if Config.recentSize ≤ s.recent.length then freeBlocks e.retained { s with recent := es } else s
  | [] => s

/-- R143: record a reply as the newest entry. -/
def recordReply (e : RecentEntry) (s : State) : State :=
  let s := evictOldest s
  { s with recent := s.recent ++ [e] }

/-- R139: set the state of a window entry. -/
def setWindow (tag : Byte) (w : WindowState) (s : State) : State :=
  { s with window := updFirst (fun e => e.tag == tag) (fun e => { e with state := w }) s.window }

/-- R146: place a reply frame at the tail of the reply queue. -/
def enqueueReply (q : QueuedReply) (s : State) : State := { s with replyQueue := s.replyQueue ++ [q] }

/-- R142: the reply of the window entry that bears `tag` is composed: it is recorded, the entry becomes REPLY-QUEUED
and the frame joins the reply queue. `retained` are the blocks a COLLECT reply carries. -/
def composeReply (tag : Byte) (code : Code) (fields : ReplyFields) (retained : List Block) (s : State) : State :=
  match s.window.find? fun e => e.tag == tag with
  | some w =>
    let r : Reply := ⟨replyKind w.kind, tag, code, fields⟩
    enqueueReply ⟨r, false, false⟩
      (setWindow tag .replyQueued (recordReply ⟨tag, w.kind, w.crc, r, retained, false⟩ s))
  | none => freeBlocks retained s

/-- R142: an owner answers without blocks. -/
def answer (tag : Byte) (code : Code) (fields : ReplyFields) (s : State) : State :=
  composeReply tag code fields [] s

/-- R139: an owner holds the reply for a later event. -/
def deferReply (tag : Byte) (w : Waits) (s : State) : State := setWindow tag (.deferred w) s

/-- R139: compose the deferred reply that waits for `w`, if a request waits for it. -/
def answerDeferred (w : Waits) (code : Code) (fields : ReplyFields) (s : State) : State :=
  match s.window.find? fun e => e.state == .deferred w with
  | some e => answer e.tag code fields s
  | none => s

/-! ## The transmitter (R146, R159) -/

/-- R8: the blocks a reply frame carries, read from the retained set of its entry as the frame begins. -/
def replyBlocks (r : Reply) (s : State) : List Block :=
  match r.fields with
  | .collect _ _ _ _ => ((s.recent.find? fun e => e.tag == r.tag).map (·.retained)).getD []
  | .none => []
  | .queryPart => []
  | .readStatus _ => []
  | .lineReset _ _ => []
  | .sift _ _ _ _ => []
  | .readNode _ _ _ _ => []
  | .dismissNode _ => []
  | .openPipe _ => []
  | .closePipe _ => []
  | .resumePipe _ => []
  | .readPipe _ => []
  | .send _ => []
  | .flush _ => []
  | .ackNotices _ => []

/-- R159: the oldest notice marked unsent. -/
def nextUnsent (s : State) : Option Notice := s.notices.find? (·.unsent)

/-- R146: the idle transmitter chooses the next frame: the refusal, else the oldest reply, else the oldest unsent
notice, whose unsent mark is cleared. -/
def chooseFrame (s : State) : State :=
  match s.refusal with
  | some r => { s with tx := some ⟨.refusal, hostFrame (encodeReply r false [])⟩ }
  | none =>
    match s.replyQueue with
    | q :: _ =>
      { s with tx := some ⟨.reply, hostFrame (encodeReply q.reply q.repeated (replyBlocks q.reply s))⟩ }
    | [] =>
      match nextUnsent s with
      | some n =>
        { s with
          tx := some ⟨.notice n.number, hostFrame (encodeNotice n)⟩
          notices := updFirst (·.unsent) (fun m => { m with unsent := false }) s.notices }
      | none => s

/-- R146: a transmitter that is idle chooses a frame. DEDUCED: it chooses when the event that made a frame waiting
has done all its acts (log 5). -/
def kickTx (s : State) : State :=
  match s.tx with
  | some _ => s
  | none => chooseFrame s

/-! ## Power-up (R151, R152) -/

/-- R19, R22, R59, R80, R104, R105, R120, R137, R139, R141, R143, R151, R165: every block of the part in its power-up
state, before READY is created; the pins and the host rate stand. -/
def blankPart (s : State) : State where
  pending := s.pending
  draws := s.draws
  rstHigh := s.rstHigh
  cold := s.cold
  rate1 := s.rate1
  rate0 := s.rate0
  hostRate := s.hostRate
  lineDominant := s.lineDominant
  rx := ⟨.hunt, [], false⟩
  tx := none
  replyQueue := []
  counters := zeroCounters
  window := []
  refusal := none
  recent := []
  loopSlot := none
  restartPending := false
  free := freshPool
  catchSlot := none
  pipes := []
  nodes := []
  barred := []
  roundTimer := false
  recallCountdown := 64
  due := []
  engine := .idle
  txn := none
  loopTx := none
  sift := idleSift
  loop := .off
  drainTarget := none
  resume := false
  params := defaultParams
  phase := .quiet
  domTimer := false
  notices := []
  nextNumber := 1
  missed := 0
  resendTimer := false

/-- R151, R152: every block starts in its power-up state and READY is created. -/
def startPart (cause : ReadyCause) (s : State) : State := notify (.ready cause) (blankPart s)

/-! ## Commands -/

/-- A command that acts while the part is out of reset, its effect followed by the transmitter's choice. While RSTn
is low the part is held in reset and nothing acts on it (R152). -/
def live (f : State → State) (s : State) : Host.Outcome State Fault Refusal :=
  if s.rstHigh then .next (kickTx (f s)) else .next s

end Sys2Proof.Machine
end

