-- ==== Sys2Proof/Machine/Rounds.lean ====
section
/-! DEFINITION. The Round Scheduler's round start and recall (chapter 3). -/

namespace Sys2Proof.Machine

/-- R55: count a round overrun. -/
def countOverrun (s : State) : State :=
  { s with counters := { s.counters with roundOverruns := sat16 s.counters.roundOverruns } }

/-- R45 step 2: decrement every pipe's countdown, stopping at 0. -/
def decrementCountdowns (s : State) : State :=
  { s with pipes := s.pipes.map fun p => { p with countdown := p.countdown - 1 } }

/-- R47: the pipe is eligible to be appended at a round start. -/
def pipeEligible (p : Pipe) (s : State) : Bool :=
  ((findNode p.node s).map (·.state)) = some .enrolled ∧ pipeInFlight p.handle s = false ∧
    DueEntry.pipe p.handle ∉ s.due ∧ pipeReadyForDue p = true

/-- R45 step 3: consider one pipe; an eligible one is appended and its countdown reloaded. -/
def considerPipe (h : Nat) (s : State) : State :=
  match findPipe h s with
  | some p => if pipeEligible p s then setCountdown h p.period (appendDue (.pipe h) s) else s
  | none => s

/-- R48: append a RECALL entry for one node, if it is LOST and has no PING in flight. -/
def appendRecall (a : Nat) (s : State) : State :=
  match findNode a s with
  | some n => if n.state = .lost ∧ pingInFlight a s = false then appendDue (.recall a) s else s
  | none => s

/-- R48: the recall countdown has expired. -/
def recallExpiry (s : State) : State :=
  let s := forEach appendRecall (s.nodes.map (·.addr)) s
  { s with recallCountdown := s.params.recallInterval }

/-- R45 step 5: step the recall countdown. -/
def stepRecall (s : State) : State :=
  if s.recallCountdown - 1 = 0 then recallExpiry s else { s with recallCountdown := s.recallCountdown - 1 }

/-- R45: a round start, its five steps in order. -/
def roundStep (s : State) : State :=
  let s := if s.due = [] then s else countOverrun s
  let s := decrementCountdowns s
  let s := forEach considerPipe (s.pipes.map (·.handle)) s
  let s := if siftActive s then appendDue .sift s else s
  stepRecall s

/-- R44: the loop enters RUNNING: the round timer starts with a round start. -/
def enterRunning (s : State) : State := roundStep { s with loop := .running, roundTimer := true }

end Sys2Proof.Machine
end

