-- ==== Sys2Proof/Machine/BlockPool.lean ====
section
/-! DEFINITION. The Block Pool (chapter 1): SEND, COLLECT, FLUSH and the moves of the loop transactions. -/

namespace Sys2Proof.Machine

/-- R10: take the free-list head, fill it, and append it to the pipe's outbound queue. -/
def takeForSend (h : Nat) (confirm : Option Byte) (data : List Byte) (s : State) : State :=
  match s.free with
  | b :: rest =>
    updPipe h (fun p => { p with queue := p.queue ++ [⟨b.index, data, false, confirm⟩] }) { s with free := rest }
  | [] => s

/-- R4, R21, R171: the length of a pipe's outbound queue, which an IN pipe's SEND reply also carries: 0 there (log 17). -/
def outboundLength (p : Pipe) : Nat :=
  match p.dir with
  | .outbound => p.queue.length
  | .inbound => 0

/-- R4, R21: the length of a pipe's inbound queue, which an OUT pipe's COLLECT reply also carries: 0 there (log 17). -/
def inboundLength (p : Pipe) : Nat :=
  match p.dir with
  | .inbound => p.queue.length
  | .outbound => 0

/-- R10, R21: SEND, its checks in order. The reply carries the outbound queue length (log 17). -/
def requestSend (tag handle flags : Byte) (data : List Byte) (s : State) : State :=
  if Config.maxPipes ≤ handle.toNat then answer tag .badField (.send 0) s
  else match findPipe handle.toNat s with
    | none => answer tag .noPipe (.send 0) s
    | some p =>
      if p.state = .closing then answer tag .pipeState (.send (outboundLength p)) s
      else if p.dir = .inbound then answer tag .wrongDirection (.send (outboundLength p)) s
      else if p.quota ≤ p.queue.length then answer tag .quota (.send (outboundLength p)) s
      else if s.free.length ≤ Config.sendReserve then answer tag .noBlock (.send (outboundLength p)) s
      else
        answer tag .ok (.send (outboundLength p + 1))
          (takeForSend p.handle (if flagBit flags then some tag else none) data s)

/-- R12: an entry recorded for a COLLECT reply, under this tag, that retains blocks. -/
def holdsRetained (tag : Byte) (e : RecentEntry) : Bool := e.tag == tag && e.kind == kindCollect && !e.retained.isEmpty

/-- R12: the entry a release names, where it can be released. -/
def releasable (tag : Byte) (s : State) : Option RecentEntry :=
  if s.window.any fun w => w.tag == tag then none else s.recent.find? (holdsRetained tag)

/-- R12: mark an entry released; its retained set is gone. -/
def markReleased (e : RecentEntry) : RecentEntry := { e with retained := [], released := true }

/-- R12: the release step of COLLECT. -/
def releaseStep (flags releaseTag : Byte) (s : State) : ReleaseOutcome × State :=
  if flagBit flags then
    match releasable releaseTag s with
    | some e =>
      (.released,
        freeBlocks e.retained { s with recent := updFirst (holdsRetained releaseTag) markReleased s.recent })
    | none => (.notFound, s)
  else (.notAsked, s)

/-- R13: take blocks from the head of an inbound queue; a queue left empty clears the waiting-reported mark. -/
def takeForCollect (h n : Nat) (s : State) : State :=
  updPipe h (fun p =>
    { p with
      queue := p.queue.drop n
      waitingReported := if (p.queue.drop n).isEmpty then false else p.waitingReported }) s

/-- R13, R21: the collect part of COLLECT, after the release step. The remaining field carries the inbound queue length
(log 17). -/
def collectStep (tag handle max : Byte) (rel : ReleaseOutcome) (s : State) : State :=
  let queued := if Config.maxPipes ≤ handle.toNat then 0
    else ((findPipe handle.toNat s).map inboundLength).getD 0
  let refuse := fun (c : Code) => answer tag c (.collect handle rel 0 queued) s
  if max.toNat < 1 ∨ 3 < max.toNat then refuse .badField
  else if Config.maxPipes ≤ handle.toNat then refuse .badField
  else match findPipe handle.toNat s with
    | none => refuse .noPipe
    | some p =>
      if p.state = .closing then refuse .pipeState
      else if p.dir = .outbound then refuse .wrongDirection
      else
        let taken := p.queue.take max.toNat
        composeReply tag .ok (.collect handle rel taken.length (p.queue.length - taken.length)) taken
          (takeForCollect p.handle taken.length s)

/-- R12, R13: COLLECT. -/
def requestCollect (tag handle max flags releaseTag : Byte) (s : State) : State :=
  collectStep tag handle max (releaseStep flags releaseTag s).1 (releaseStep flags releaseTag s).2

/-- R14: the blocks FLUSH leaves: an in-flight head of an OUT pipe. -/
def flushKeeps (p : Pipe) : List Block :=
  match p.dir, p.queue with
  | .outbound, b :: _ => if b.inFlight then [b] else []
  | .outbound, [] => []
  | .inbound, _ => []

/-- R14: the blocks FLUSH removes, in queue order. -/
def flushTakes (p : Pipe) : List Block := p.queue.drop (flushKeeps p).length

/-- R14: FLUSH, its checks in order. -/
def requestFlush (tag handle : Byte) (s : State) : State :=
  if Config.maxPipes ≤ handle.toNat then answer tag .badField (.flush 0) s
  else match findPipe handle.toNat s with
    | none => answer tag .noPipe (.flush 0) s
    | some p =>
      if p.state = .closing then answer tag .pipeState (.flush 0) s
      else
        answer tag .ok (.flush (flushTakes p).length)
          (discardBlocks p.handle (flushTakes p)
            (updPipe p.handle (fun q =>
              { q with queue := flushKeeps p
                       waitingReported := if q.dir = .inbound then false else q.waitingReported }) s))

/-- R7, R69: DATA payload bytes are written into the catch block. -/
def writeCatch (payload : List Byte) (s : State) : State :=
  { s with catchSlot := s.catchSlot.map fun b => { b with payload := payload } }

/-- R16: the catch block of an accepted DATA joins the tail of the pipe's inbound queue. -/
def catchToQueue (h : Nat) (s : State) : State :=
  match s.catchSlot, findPipe h s with
  | some b, some _ => updPipe h (fun p => { p with queue := p.queue ++ [b.release] }) { s with catchSlot := none }
  | some b, none => freeBlocks [b] { s with catchSlot := none }
  | none, _ => s

/-- R16: the catch block returns to the free-list tail. -/
def catchToFree (s : State) : State :=
  match s.catchSlot with
  | some b => freeBlocks [b] { s with catchSlot := none }
  | none => s

/-- R17: set the in-flight mark of the head of a queue. -/
def markHead (mark : Bool) (queue : List Block) : List Block :=
  match queue with
  | b :: rest => { b with inFlight := mark } :: rest
  | [] => []

/-- R17: the head bears the in-flight mark while its DELIVER is in flight. -/
def markOutboundHead (h : Nat) (mark : Bool) (s : State) : State :=
  updPipe h (fun p => { p with queue := markHead mark p.queue }) s

/-- R17: a TAKEN head leaves the queue, joins the free-list tail, and yields DELIVERED if it bore a confirm tag. -/
def freeTakenHead (h : Nat) (s : State) : State :=
  match findPipe h s with
  | some p =>
    match p.queue with
    | b :: rest => notifyDelivered h false b (freeBlocks [b] (updPipe h (fun q => { q with queue := rest }) s))
    | [] => s
  | none => s

end Sys2Proof.Machine
end

