-- ==== Sys2Proof/Machine/Nodes.lean ====
section
/-! DEFINITION. The Node Table (chapter 5): silence and loss, recall, re-adoption, dismissal, READ-NODE. -/

namespace Sys2Proof.Machine

/-- R101: put an address into the barred set. The set is unordered; the model lists it in rising order. -/
def barAddress (a : Nat) (s : State) : State :=
  if a ∈ s.barred then s else { s with barred := insertBy id a s.barred }

/-- R87, R88: add the record of a newly adopted node. -/
def addNode (a : Nat) (i : Ident) (s : State) : State :=
  { s with nodes := insertBy Node.addr ⟨a, i, .enrolled, 0, 0⟩ s.nodes }

/-- R90: set a node's silence count to 0. -/
def clearSilence (a : Nat) (s : State) : State := updNode a (fun n => { n with silence := 0 }) s

/-- R90: raise a node's silence count. -/
def raiseSilence (a : Nat) (s : State) : State := updNode a (fun n => { n with silence := satSilence n.silence }) s

/-- R91, R99: the node becomes LOST: its PIPE entries leave the due list and NODE-LOST is created. -/
def loseNode (a : Nat) (s : State) : State :=
  notify (.nodeLost a)
    (removePipeEntries a (updNode a (fun n => { n with state := .lost, dismissTries := 0 }) s))

/-- R29, R91: a NONE on a call of one of this node's pipes makes it LOST. -/
def noneLosesNode (a : Nat) (s : State) : Bool :=
  match findNode a s with
  | some n => n.state = .enrolled ∧ s.params.lossLimit ≤ satSilence n.silence
  | none => false

/-- R78, R90, R91: a pipe call of the node ended NONE. -/
def nodeUnanswered (a : Nat) (s : State) : State :=
  if noneLosesNode a s then loseNode a (raiseSilence a s) else raiseSilence a s

/-- R39, R40: set the countdown of every pipe of a node to 1. -/
def rearmPipes (a : Nat) (s : State) : State :=
  { s with pipes := s.pipes.map fun p => if p.node = a then { p with countdown := 1 } else p }

/-- R93: a PING answered PRESENT brings the LOST node back with its memory. -/
def recallNode (a : Nat) (s : State) : State :=
  match findNode a s with
  | some n =>
    if n.state = .lost then
      notify (.nodeBack a false)
        (rearmPipes a (updNode a (fun m => { m with state := .enrolled, silence := 0 }) s))
    else s
  | none => s

/-- R40: a pipe of a re-adopted node. -/
def readoptPipe (p : Pipe) : Pipe :=
  { p with state := .active, seq := false, tries := 0, clearNeeded := false, countdown := 1 }

/-- R40: the handles of a node's pipes that re-adoption finds CLEARING, HALTED or FAULTED, in handle order. -/
def stalledHandles (a : Nat) (s : State) : List Nat :=
  (s.pipes.filter fun p =>
    p.node == a && (p.state == .clearing || p.state == .halted || p.state == .faulted)).map (·.handle)

/-- R52, R95: what re-adoption takes off the due list: nothing for a DISMISSING node. -/
def removeForReadoption (n : Node) (s : State) : State :=
  match n.state with
  | .enrolled => removePipeEntries n.addr s
  | .lost => removeDue (.recall n.addr) (removePipeEntries n.addr s)
  | .dismissing => s

/-- R40, R95: re-adopt the record: the due-list removals, the record, its pipes, and the notices in order. -/
def readoptNode (n : Node) (s : State) : State :=
  let stalled := stalledHandles n.addr s
  let s := removeForReadoption n s
  let s := updNode n.addr (fun m =>
    { m with state := if m.state = .dismissing then .dismissing else .enrolled, silence := 0, dismissTries := 0 }) s
  let s := { s with pipes := s.pipes.map fun p => if p.node = n.addr then readoptPipe p else p }
  forEach (fun h => notify (.pipeReady h)) stalled (notify (.nodeBack n.addr true) s)

/-- R41, R97, R98: remove a node's pipes in handle order, then its record. -/
def removeNode (a : Nat) (s : State) : State :=
  let s := removePipes (handlesOf a s) s
  { s with nodes := s.nodes.eraseP fun n => n.addr == a }

/-- R97: DISMISS-NODE removes a LOST node and bars its address. -/
def removeLostNode (a : Nat) (s : State) : State :=
  barAddress a (removeNode a (removeDue (.recall a) s))

/-- R51, R52, R96: the node becomes DISMISSING and its DISMISS entry is appended. -/
def beginDismissal (a : Nat) (s : State) : State :=
  appendDue (.dismiss a)
    (removePipeEntries a (updNode a (fun n => { n with state := .dismissing, dismissTries := 0 }) s))

/-- R96: DISMISS-NODE, its checks in order. -/
def requestDismissNode (tag addr : Byte) (s : State) : State :=
  if addr.toNat < 1 ∨ Config.maxNodes < addr.toNat then answer tag .badField (.dismissNode 0) s
  else match findNode addr.toNat s with
    | none => answer tag .noNode (.dismissNode 0) s
    | some n =>
      match n.state with
      | .dismissing => answer tag .busy (.dismissNode 0) s
      | .lost => answer tag .ok (.dismissNode (handlesOf n.addr s).length) (removeLostNode n.addr s)
      | .enrolled =>
        if s.loop = .running then deferReply tag (.dismiss n.addr) (beginDismissal n.addr s)
        else answer tag .loopState (.dismissNode 0) s

/-- R98: DISMISSED removes the node and answers the deferred request. -/
def dismissalAnswered (a : Nat) (s : State) : State :=
  match findNode a s with
  | some _ => answerDeferred (.dismiss a) .ok (.dismissNode (handlesOf a s).length) (removeNode a s)
  | none => s

/-- R99: a DISMISS ended NONE or GARBLED, its counter and silence already settled. -/
def dismissTryFailed (a : Nat) (s : State) : State :=
  match findNode a s with
  | some n =>
    if n.dismissTries + 1 < s.params.tryLimit then
      let s := updNode a (fun m => { m with dismissTries := m.dismissTries + 1 }) s
      if s.loop = .running then appendDue (.dismiss a) s else s
    else answerDeferred (.dismiss a) .noAnswer (.dismissNode 0) (loseNode a s)
  | none => s

/-- R100: one DISMISSING node is settled: ENROLLED again, its request answered CANCELLED. -/
def cancelDismissal (a : Nat) (s : State) : State :=
  answerDeferred (.dismiss a) .cancelled (.dismissNode 0)
    (updNode a (fun n => { n with state := .enrolled, dismissTries := 0 }) s)

/-- R100: settle every DISMISSING node, in address order. -/
def settleDismissals (s : State) : State :=
  forEach cancelDismissal ((s.nodes.filter fun n => n.state == .dismissing).map (·.addr)) s

/-- R102: READ-NODE, its checks in order. -/
def requestReadNode (tag addr : Byte) (s : State) : State :=
  if addr.toNat < 1 ∨ Config.maxNodes < addr.toNat then answer tag .badField (.readNode none 0 0 []) s
  else match findNode addr.toNat s with
    | none => answer tag .noNode (.readNode none 0 0 []) s
    | some n => answer tag .ok (.readNode (some n.state) n.identity n.silence (handlesOf n.addr s)) s

end Sys2Proof.Machine
end

