-- ==== Sys2Proof/Machine/Pipes.lean ====
section
/-! DEFINITION. The Pipe Table (chapter 2): OPEN-PIPE, CLOSE-PIPE, RESUME-PIPE, READ-PIPE, and what the outcome of a
pipe's transaction does to its record. -/

namespace Sys2Proof.Machine

/-- R22: the lowest free handle. -/
def lowestFreeHandle (s : State) : Option Nat :=
  (List.range Config.maxPipes).find? fun h => (findPipe h s).isNone

/-- R167: the direction a code names. -/
def directionOf (b : Byte) : Option Direction :=
  if b = 0x00#8 then some .inbound else if b = 0x01#8 then some .outbound else none

/-- R26: the record OPEN-PIPE creates. -/
def newPipe (h node number : Nat) (dir : Direction) (period quota : Nat) : Pipe :=
  { handle := h, node := node, number := number, dir := dir, period := period, quota := quota, state := .clearing,
    countdown := 0, seq := false, tries := 0, clearNeeded := false, waitingReported := false, transfers := 0,
    duplicates := 0, queue := [] }

/-- R22: put a record into the table, which is kept in handle order. -/
def addPipe (p : Pipe) (s : State) : State := { s with pipes := insertBy Pipe.handle p s.pipes }

/-- R26: a node entry has this address and is not DISMISSING. -/
def nodeOpen (a : Nat) (s : State) : Bool :=
  match findNode a s with
  | some n => n.state ≠ .dismissing
  | none => false

/-- R26: OPEN-PIPE, its checks in order. -/
def requestOpenPipe (tag node number dir period quota : Byte) (s : State) : State :=
  let refuse := fun (c : Code) => answer tag c (.openPipe none) s
  if node.toNat < 1 ∨ Config.maxNodes < node.toNat then refuse .badField
  else if 3 < number.toNat then refuse .badField
  else match directionOf dir with
    | none => refuse .badField
    | some d =>
      if period.toNat = 0 then refuse .badField
      else if quota.toNat < 1 ∨ 32 < quota.toNat then refuse .badField
      else if ¬ nodeOpen node.toNat s then refuse .noNode
      else if s.pipes.any fun p => p.node == node.toNat && p.number == number.toNat then refuse .pipeExists
      else match lowestFreeHandle s with
        | none => refuse .tableFull
        | some h =>
          answer tag .ok (.openPipe (some h))
            (addPipe (newPipe h node.toNat number.toNat d period.toNat quota.toNat) s)

/-- R36, R37: CLOSE-PIPE, its checks in order: at once, or CLOSING while the pipe's transaction is in flight. -/
def requestClosePipe (tag handle : Byte) (s : State) : State :=
  if Config.maxPipes ≤ handle.toNat then answer tag .badField (.closePipe 0) s
  else match findPipe handle.toNat s with
    | none => answer tag .noPipe (.closePipe 0) s
    | some p =>
      if p.state = .closing then answer tag .pipeState (.closePipe 0) s
      else if pipeInFlight p.handle s then
        deferReply tag (.close p.handle)
          (removeDue (.pipe p.handle) (updPipe p.handle (fun q => { q with state := .closing }) s))
      else answer tag .ok (.closePipe p.queue.length) (removePipe p.handle (removeDue (.pipe p.handle) s))

/-- R37: the end of a CLOSING pipe's transaction completes the close. -/
def completeClose (h : Nat) (s : State) : State :=
  match findPipe h s with
  | some p => answerDeferred (.close h) .ok (.closePipe p.queue.length) (removePipe h s)
  | none => s

/-- R35: what RESUME-PIPE makes of a pipe that is not CLOSING. -/
def resumedPipe (p : Pipe) : Pipe :=
  match p.state with
  | .halted => { p with state := .clearing, tries := 0 }
  | .faulted =>
    if p.clearNeeded then { p with state := .clearing, clearNeeded := false, tries := 0 }
    else { p with state := .active, tries := 0 }
  | .clearing => { p with tries := 0 }
  | .active => { p with tries := 0 }
  | .closing => p

/-- R35: RESUME-PIPE, its checks in order. -/
def requestResumePipe (tag handle : Byte) (s : State) : State :=
  if Config.maxPipes ≤ handle.toNat then answer tag .badField (.resumePipe none) s
  else match findPipe handle.toNat s with
    | none => answer tag .noPipe (.resumePipe none) s
    | some p =>
      if p.state = .closing then answer tag .pipeState (.resumePipe (some .closing)) s
      else answer tag .ok (.resumePipe (some (resumedPipe p).state)) (updPipe p.handle resumedPipe s)

/-- R38: the report of a pipe record. -/
def reportPipe (p : Pipe) : PipeReport :=
  { handle := p.handle, node := p.node, number := p.number, dir := p.dir, period := p.period, quota := p.quota,
    state := p.state, countdown := p.countdown, seq := p.seq, tries := p.tries, clearNeeded := p.clearNeeded,
    waitingReported := p.waitingReported, transfers := p.transfers, duplicates := p.duplicates,
    queued := p.queue.length }

/-- R38: READ-PIPE, its checks in order. -/
def requestReadPipe (tag handle : Byte) (s : State) : State :=
  if Config.maxPipes ≤ handle.toNat then answer tag .badField (.readPipe none) s
  else match findPipe handle.toNat s with
    | none => answer tag .noPipe (.readPipe none) s
    | some p => answer tag .ok (.readPipe (some (reportPipe p))) s

/-! ## Outcomes applied to the record (R27 to R34, R70 to R77) -/

/-- R34, R70: ask for DATA-WAITING where the mark is clear; the mark is set only when the notice is stored. -/
def reportWaiting (h : Nat) (s : State) : State :=
  match findPipe h s with
  | some p =>
    if p.waitingReported then s
    else if noticeFits s then
      notify (.dataWaiting h p.queue.length) (updPipe h (fun q => { q with waitingReported := true }) s)
    else notify (.dataWaiting h p.queue.length) s
  | none => s

/-- R70: an accepted DATA, its block already in the queue. -/
def pipeAccepted (h : Nat) (s : State) : State :=
  reportWaiting h (updPipe h (fun p => { p with seq := !p.seq, transfers := sat16 p.transfers, tries := 0 }) s)

/-- R71: a duplicate DATA. -/
def pipeDuplicate (h : Nat) (s : State) : State :=
  updPipe h (fun p => { p with duplicates := sat16 p.duplicates, tries := 0 }) s

/-- R75: TAKEN. -/
def pipeTaken (h : Nat) (s : State) : State :=
  updPipe h (fun p => { p with seq := !p.seq, transfers := sat16 p.transfers, tries := 0 }) s

/-- R29, R33: HOLD, and the NONE that loses the node: tries go to 0. -/
def pipeTriesCleared (h : Nat) (s : State) : State := updPipe h (fun p => { p with tries := 0 }) s

/-- R32: REFUSE makes the pipe HALTED. -/
def pipeRefused (h : Nat) (duringClear : Bool) (s : State) : State :=
  notify (.pipeHalted h duringClear) (updPipe h (fun p => { p with state := .halted, tries := 0 }) s)

/-- R31: CLEARED makes the pipe ACTIVE. -/
def pipeCleared (h : Nat) (s : State) : State :=
  notify (.pipeReady h)
    (updPipe h (fun p => { p with state := .active, seq := false, tries := 0, clearNeeded := false }) s)

/-- R30: a pipe whose tries have reached the limit. -/
def faultedPipe (p : Pipe) : Pipe :=
  { p with state := .faulted, tries := 0, clearNeeded := if p.state = .clearing then true else p.clearNeeded }

/-- R28, R50, R78: the retry is appended while the loop is RUNNING and the pipe's node ENROLLED. -/
def retryAllowed (p : Pipe) (s : State) : Bool :=
  s.loop = .running ∧ ((findNode p.node s).map (·.state)) = some .enrolled

/-- R28, R30: a failed try. -/
def pipeFailedTry (h : Nat) (garbled : Bool) (s : State) : State :=
  match findPipe h s with
  | some p =>
    if p.tries + 1 < s.params.tryLimit then
      let s := updPipe h (fun q => { q with tries := q.tries + 1 }) s
      if retryAllowed p s then appendDue (.pipe h) s else s
    else notify (.pipeFaulted h garbled) (updPipe h faultedPipe s)
  | none => s

end Sys2Proof.Machine
end

