-- ==== Sys2Proof/Machine/Sift.lean ====
section
/-! DEFINITION. The Sift Unit (chapter 6). -/

namespace Sys2Proof.Machine

/-- Change the Sift Unit. -/
def updSift (f : SiftUnit → SiftUnit) (s : State) : State := { s with sift := f s.sift }

def raiseJoined (s : State) : State := updSift (fun u => { u with joined := sat8 u.joined }) s
def raiseReadopted (s : State) : State := updSift (fun u => { u with readopted := sat8 u.readopted }) s
def raiseConflicts (s : State) : State := updSift (fun u => { u with conflicts := sat8 u.conflicts }) s
def raiseUnassigned (s : State) : State := updSift (fun u => { u with unassigned := sat8 u.unassigned }) s

/-- R106: the prefix of length 0. -/
def emptyPrefix : Prefix := ⟨0, 0#32⟩

/-- R106, R110: push a prefix's 1 branch and then its 0 branch, so that the 0 branch is on top. -/
def splitPrefix (p : Prefix) (s : State) : State :=
  updSift (fun u => { u with stack := extendPrefix p false :: extendPrefix p true :: u.stack }) s

/-- R116: the fields of a SIFT reply. -/
def siftTallies (s : State) : ReplyFields :=
  .sift s.sift.joined s.sift.readopted s.sift.conflicts s.sift.unassigned

/-- R116: the sift ends with this code: IDLE, the entry removed, the deferred reply composed. -/
def endSift (code : Code) (s : State) : State :=
  let s := updSift (fun u => { u with state := .idle, stack := [], held := none }) s
  let s := removeDue .sift s
  answerDeferred .sift code (siftTallies s) s

/-- R110, R113, R114: the unit is in PROBING; with the stack empty the sift ends with OK. -/
def continueSift (s : State) : State :=
  let s := updSift (fun u => { u with state := .probing, held := none }) s
  if s.sift.stack = [] then endSift .ok s else s

/-- R113, R114, R115: release the held assignment with unassigned raised, and go on. -/
def dropHeld (s : State) : State := continueSift (raiseUnassigned s)

/-- R111: the record that bears an identity. -/
def nodeOfIdentity (i : Ident) (s : State) : Option Node := s.nodes.find? fun n => n.identity == i

/-- R111: the lowest address that is neither occupied nor barred. -/
def lowestFreeAddress (s : State) : Option Nat :=
  (List.range' 1 Config.maxNodes).find? fun a => (findNode a s).isNone && !(s.barred.contains a)

/-- R105, R111: hold an assignment. -/
def holdIdentity (i : Ident) (a : Nat) (k : HeldKind) (s : State) : State :=
  updSift (fun u => { u with state := .assigning, held := some ⟨i, a, k, 0⟩ }) s

/-- R111: a VALID IDENT: choose the address, or end the sift with TABLE-FULL. -/
def identFound (i : Ident) (s : State) : State :=
  match nodeOfIdentity i s with
  | some n => holdIdentity i n.addr .readopt s
  | none =>
    match lowestFreeAddress s with
    | some a => holdIdentity i a .new s
    | none => endSift .tableFull (raiseUnassigned s)

/-- R110: a PROBE ended GARBLED. -/
def probeGarbled (p : Prefix) (s : State) : State :=
  if p.len < 32 then splitPrefix p s else continueSift (raiseConflicts s)

/-- R115: the record of a held READOPT identity still stands at the held address. -/
def heldRecord (hd : Held) (s : State) : Option Node :=
  s.nodes.find? fun n => n.addr == hd.addr && n.identity == hd.identity

/-- R115: the held assignment has lost its record. -/
def heldGone (hd : Held) (s : State) : Bool := hd.kind = .readopt ∧ heldRecord hd s = none

/-- R113: a VALID ADOPTED. -/
def heldAdopted (hd : Held) (s : State) : State :=
  match hd.kind, heldRecord hd s with
  | .new, _ =>
    continueSift (raiseJoined (notify (.nodeJoined hd.addr hd.identity) (addNode hd.addr hd.identity s)))
  | .readopt, some n => continueSift (raiseReadopted (readoptNode n s))
  | .readopt, none => dropHeld s

/-- R101, R114, R118: the address of a NEW identity whose ASSIGN may have been heard is barred. -/
def barHeld (hd : Held) (s : State) : State :=
  match hd.kind with
  | .new => barAddress hd.addr s
  | .readopt => s

/-- R114: an ASSIGN ended NONE or GARBLED. -/
def assignTryFailed (hd : Held) (s : State) : State :=
  if heldGone hd s then dropHeld s
  else if hd.tries + 1 < s.params.tryLimit then
    let s := updSift (fun u => { u with held := some { hd with tries := hd.tries + 1 } }) s
    if s.loop = .running then appendDue .sift s else s
  else dropHeld (barHeld hd s)

/-- R118: an ASSIGN was abandoned on line fault. -/
def assignAbandoned (hd : Held) (s : State) : State :=
  updSift (fun u => { u with held := none }) (raiseUnassigned (barHeld hd s))

/-- R117: settle a held assignment at cancellation. -/
def cancelHeld (s : State) : State :=
  match s.sift.held with
  | some hd => raiseUnassigned (if 0 < hd.tries then barHeld hd s else s)
  | none => s

/-- R117: cancellation takes effect, where a sift is active. -/
def cancelSift (s : State) : State :=
  if siftActive s then endSift .cancelled (cancelHeld s) else s

/-- R107: SIFT, its checks in order. -/
def requestSift (tag : Byte) (s : State) : State :=
  if s.loop ≠ .running then answer tag .loopState (.sift 0 0 0 0) s
  else if siftActive s then answer tag .busy (.sift 0 0 0 0) s
  else deferReply tag .sift { s with sift := ⟨.probing, [emptyPrefix], none, 0, 0, 0, 0⟩ }

end Sys2Proof.Machine
end

