-- ==== Sys2Proof/Machine/Transactions.lean ====
section
/-! DEFINITION. The Loop Engine (chapter 4) and the service of the due list (R53, R54): starting a call, classifying
what is heard, and reporting the end of a transaction to its owners. -/

namespace Sys2Proof.Machine

/-! ## Starting a call (R53, R54, R63) -/

/-- R173: the call's frame. -/
def callFrame (t : Transaction) : LoopFrame :=
  ⟨typeOfCall t.call, byteOf t.addr, pipeSeqByte t.pipe t.seq, t.payload⟩

/-- R62, R63: the engine enters CALLING with this transaction record and sends the call. -/
def startCall (t : Transaction) (s : State) : State :=
  { s with engine := .calling, txn := some t, loopTx := some (callFrame t) }

/-- R63, R92, R98: a record for a call that concerns no pipe. -/
def nodeCall (entry : DueEntry) (call : CallKind) (addr answerFrom : Nat) (payload : List Byte)
    (identity : Option Ident) (probed : Option Prefix) (s : State) : Transaction :=
  ⟨entry, call, addr, answerFrom, 0, false, payload, identity, probed, s.params.replyWindow, .nothing, none⟩

/-- R63: a record for a data call on a pipe. -/
def pipeCall (p : Pipe) (call : CallKind) (seq : Bool) (payload : List Byte) (s : State) : Transaction :=
  ⟨.pipe p.handle, call, p.node, p.node, p.number, seq, payload, none, none, s.params.replyWindow, .nothing, none⟩

/-- R54: an IN entry whose catch claim is refused is skipped, counted, and its pipe's countdown set to 0. -/
def fetchStarved (h : Nat) (s : State) : State :=
  setCountdown h 0
    { s with counters := { s.counters with fetchStarvations := sat16 s.counters.fetchStarvations } }

/-- R15, R53: the catch claim, and the FETCH call if it is granted. -/
def serveFetch (p : Pipe) (s : State) : State :=
  match s.free with
  | b :: rest => startCall (pipeCall p .fetch p.seq [] s) { s with free := rest, catchSlot := some b }
  | [] => fetchStarved p.handle s

/-- R17, R53: the DELIVER call carrying the head of the outbound queue, or a skip. -/
def serveDeliver (p : Pipe) (s : State) : State :=
  match p.queue with
  | b :: _ => startCall (pipeCall p .deliver p.seq b.payload s) (markOutboundHead p.handle true s)
  | [] => s

/-- R53: serve a PIPE entry by the state of its pipe. -/
def servePipe (h : Nat) (s : State) : State :=
  match findPipe h s with
  | some p =>
    match p.state, p.dir with
    | .clearing, _ => startCall (pipeCall p .clear false [] s) s
    | .active, .inbound => serveFetch p s
    | .active, .outbound => serveDeliver p s
    | .halted, _ => s
    | .faulted, _ => s
    | .closing, _ => s
  | none => s

/-- R53, R92: serve a RECALL entry with PING. The identity the PRESENT must carry is the record's. -/
def serveRecall (a : Nat) (s : State) : State :=
  match findNode a s with
  | some n => if n.state = .lost then startCall (nodeCall (.recall a) .ping a a [] (some n.identity) none s) s else s
  | none => s

/-- R53, R98: serve a DISMISS entry. -/
def serveDismiss (a : Nat) (s : State) : State :=
  match findNode a s with
  | some n => if n.state = .dismissing then startCall (nodeCall (.dismiss a) .dismiss a a [] none none s) s else s
  | none => s

/-- R108, R109: pop the top prefix and probe it. -/
def serveProbe (s : State) : State :=
  match s.sift.stack with
  | p :: rest =>
    startCall
      (nodeCall .sift .probe Config.unaddressed Config.unaddressed (byteOf p.len :: bytesOfIdent p.bits) none (some p) s)
      (updSift (fun u => { u with stack := rest }) s)
  | [] => s

/-- R112: the ASSIGN call; its answer comes from the new address. -/
def serveAssign (hd : Held) (s : State) : State :=
  startCall
    (nodeCall .sift .assign Config.unaddressed hd.addr (bytesOfIdent hd.identity ++ [byteOf hd.addr])
      (some hd.identity) none s) s

/-- R108, R115: serve the SIFT entry by the state of the Sift Unit. -/
def serveSift (s : State) : State :=
  match s.sift.state with
  | .probing => serveProbe s
  | .assigning =>
    match s.sift.held with
    | some hd => if heldGone hd s then serveProbe (dropHeld s) else serveAssign hd s
    | none => s
  | .idle => s

/-- R53: serve one due entry, already taken off the list. -/
def serveEntry (e : DueEntry) (s : State) : State :=
  match e with
  | .pipe h => servePipe h s
  | .recall a => serveRecall a s
  | .dismiss a => serveDismiss a s
  | .sift => serveSift s

/-- R53: while the line is free, the head of the due list is removed and served. -/
def serveHead (s : State) : State :=
  if lineFree s then
    match s.due with
    | e :: rest => serveEntry e { s with due := rest }
    | [] => s
  else s

/-! ## Classification (R65, R92, R98, R109, R112) -/

/-- How a transaction ends: the VALID answers, NONE, GARBLED, and abandonment before any outcome. -/
inductive TxnEnd where
  | accepted
  | duplicate
  | taken
  | hold
  | refuse
  | cleared
  | present
  | dismissed
  | ident (identity : Ident)
  | adopted
  | unanswered
  | garbled
  | abandoned
deriving DecidableEq, Repr

/-- A VALID answer: a DATA with its sequence bit and payload, or one that ends the transaction at once. -/
inductive ValidAnswer where
  | data (seq : Bool) (payload : List Byte)
  | ends (e : TxnEnd)
deriving DecidableEq, Repr

/-- The identity a 4-byte payload carries; none for another length. -/
def payloadIdent : List Byte → Option Ident
  | [b0, b1, b2, b3] => some (identOf b0 b1 b2 b3)
  | _ => none

/-- R65: the address check and, for an answer on a pipe, the pipe check. -/
def fromCalled (t : Transaction) (f : LoopFrame) : Bool := f.addr.toNat = t.answerFrom ∧ pipeNumberOf f.pipeSeq = t.pipe

/-- R65, R69: the VALID answers to FETCH. -/
def answerToFetch (t : Transaction) (f : LoopFrame) : Option ValidAnswer :=
  if ¬ fromCalled t f then none
  else if f.type = typeData then
    if f.payload = [] then none else some (.data (seqBitOf f.pipeSeq) f.payload)
  else if f.payload ≠ [] then none
  else if f.type = typeHold then some (.ends .hold)
  else if f.type = typeRefuse then some (.ends .refuse)
  else none

/-- R65, R74: the VALID answers to DELIVER; a TAKEN echoes the send bit. -/
def answerToDeliver (t : Transaction) (f : LoopFrame) : Option ValidAnswer :=
  if ¬ fromCalled t f ∨ f.payload ≠ [] then none
  else if f.type = typeTaken then if seqBitOf f.pipeSeq = t.seq then some (.ends .taken) else none
  else if f.type = typeHold then some (.ends .hold)
  else if f.type = typeRefuse then some (.ends .refuse)
  else none

/-- R65, R77: the VALID answers to CLEAR. -/
def answerToClear (t : Transaction) (f : LoopFrame) : Option ValidAnswer :=
  if ¬ fromCalled t f ∨ f.payload ≠ [] then none
  else if f.type = typeCleared then some (.ends .cleared)
  else if f.type = typeRefuse then some (.ends .refuse)
  else none

/-- R92: the one VALID answer to PING. -/
def answerToPing (t : Transaction) (f : LoopFrame) : Option ValidAnswer :=
  if f.type = typePresent ∧ f.addr.toNat = t.answerFrom ∧ payloadIdent f.payload = t.identity ∧ t.identity ≠ none then
    some (.ends .present)
  else none

/-- R98: the one VALID answer to DISMISS. -/
def answerToDismiss (t : Transaction) (f : LoopFrame) : Option ValidAnswer :=
  if f.type = typeDismissed ∧ f.addr.toNat = t.answerFrom ∧ f.payload = [] then some (.ends .dismissed) else none

/-- R109: the one VALID answer to PROBE; its identity begins with the probed prefix. -/
def answerToProbe (t : Transaction) (f : LoopFrame) : Option ValidAnswer :=
  if f.type = typeIdent ∧ f.addr.toNat = t.answerFrom then
    match payloadIdent f.payload, t.probed with
    | some i, some p => if prefixCovers p i then some (.ends (.ident i)) else none
    | some _, none => none
    | none, _ => none
  else none

/-- R112: the one VALID answer to ASSIGN, from the new address and with the held identity. -/
def answerToAssign (t : Transaction) (f : LoopFrame) : Option ValidAnswer :=
  if f.type = typeAdopted ∧ f.addr.toNat = t.answerFrom ∧ payloadIdent f.payload = t.identity ∧ t.identity ≠ none then
    some (.ends .adopted)
  else none

/-- R65: the answer a frame is to the call, or none where it is unacceptable. -/
def classify (t : Transaction) (f : LoopFrame) : Option ValidAnswer :=
  match t.call with
  | .fetch => answerToFetch t f
  | .deliver => answerToDeliver t f
  | .clear => answerToClear t f
  | .ping => answerToPing t f
  | .dismiss => answerToDismiss t f
  | .probe => answerToProbe t f
  | .assign => answerToAssign t f

/-! ## The end of a transaction (R66) -/

/-- R66 step 1: the Block Pool moves the transaction's block (R16, R17). -/
def settleBlock (h : Nat) (call : CallKind) (e : TxnEnd) (s : State) : State :=
  match call with
  | .fetch => if e = .accepted then catchToQueue h s else catchToFree s
  | .deliver => if e = .taken then freeTakenHead h s else markOutboundHead h false s
  | .clear => s
  | .ping => s
  | .dismiss => s
  | .probe => s
  | .assign => s

/-- R66 step 2: the Node Table applies the outcome of a pipe's transaction to the node's silence (R78). -/
def settleSilence (a : Nat) (e : TxnEnd) (s : State) : State :=
  match e with
  | .unanswered => nodeUnanswered a s
  | .garbled => s
  | .abandoned => s
  | .accepted => clearSilence a s
  | .duplicate => clearSilence a s
  | .taken => clearSilence a s
  | .hold => clearSilence a s
  | .refuse => clearSilence a s
  | .cleared => clearSilence a s
  | .present => s
  | .dismissed => s
  | .ident _ => s
  | .adopted => s

/-- R66 step 3: the Pipe Table applies the outcome to the record (R70 to R77). `lost` says that a NONE made the node
LOST in step 2 (R29). -/
def settlePipe (h : Nat) (call : CallKind) (e : TxnEnd) (lost : Bool) (s : State) : State :=
  match e with
  | .accepted => pipeAccepted h s
  | .duplicate => pipeDuplicate h s
  | .taken => pipeTaken h s
  | .hold => pipeTriesCleared h s
  | .refuse => pipeRefused h (call = .clear) s
  | .cleared => pipeCleared h s
  | .unanswered => if lost then pipeTriesCleared h s else pipeFailedTry h false s
  | .garbled => pipeFailedTry h true s
  | .abandoned => s
  | .present => s
  | .dismissed => s
  | .ident _ => s
  | .adopted => s

/-- R66, R37: the end of a pipe's transaction reported to its owners. -/
def endPipeTxn (h : Nat) (call : CallKind) (e : TxnEnd) (s : State) : State :=
  match findPipe h s with
  | some p =>
    let lost := e = .unanswered ∧ noneLosesNode p.node s = true
    let s := settleSilence p.node e (settleBlock h call e s)
    if p.state = .closing then completeClose h s else settlePipe h call e lost s
  | none => catchToFree s

/-- R93: the end of a PING. -/
def endPing (a : Nat) (e : TxnEnd) (s : State) : State := if e = .present then recallNode a s else s

/-- R98, R99: the end of a DISMISS. -/
def endDismiss (a : Nat) (e : TxnEnd) (s : State) : State :=
  if e = .dismissed then dismissalAnswered a s
  else if e = .unanswered then dismissTryFailed a (raiseSilence a s)
  else if e = .garbled then dismissTryFailed a s
  else s

/-- R110, R118: the end of a PROBE. -/
def endProbe (p : Prefix) (e : TxnEnd) (s : State) : State :=
  match e with
  | .ident i => identFound i s
  | .unanswered => continueSift s
  | .garbled => probeGarbled p s
  | .abandoned => s
  | .accepted => s
  | .duplicate => s
  | .taken => s
  | .hold => s
  | .refuse => s
  | .cleared => s
  | .present => s
  | .dismissed => s
  | .adopted => s

/-- R113, R114, R115, R118: the end of an ASSIGN. -/
def endAssign (hd : Held) (e : TxnEnd) (s : State) : State :=
  if e = .adopted then heldAdopted hd s
  else if e = .unanswered ∨ e = .garbled then assignTryFailed hd s
  else if e = .abandoned then assignAbandoned hd s
  else s

/-- The end of a sift call reported to the Sift Unit. -/
def endSiftCall (t : Transaction) (e : TxnEnd) (s : State) : State :=
  match t.probed, s.sift.held with
  | some p, _ => endProbe p e s
  | none, some hd => endAssign hd e s
  | none, none => s

/-- R68: NONE and GARBLED raise their counters, but for a PROBE. -/
def countOutcome (call : CallKind) (e : TxnEnd) (s : State) : State :=
  if call = .probe then s
  else if e = .unanswered then
    { s with counters := { s.counters with callsUnanswered := sat16 s.counters.callsUnanswered } }
  else if e = .garbled then
    { s with counters := { s.counters with answersGarbled := sat16 s.counters.answersGarbled } }
  else s

/-- R66: report the end of a transaction to the owners of its target. -/
def reportEnd (t : Transaction) (e : TxnEnd) (s : State) : State :=
  let s := countOutcome t.call e s
  match t.entry with
  | .pipe h => endPipeTxn h t.call e s
  | .recall a => endPing a e s
  | .dismiss a => endDismiss a e s
  | .sift => endSiftCall t e s

/-- R66, R81, R117: the transaction in flight ends: the engine enters TURNAROUND, the owners apply the outcome, and a
sift that is being cancelled settles. -/
def endTxn (e : TxnEnd) (s : State) : State :=
  match s.txn with
  | some t =>
    let s := reportEnd t e { s with engine := .turnaround, txn := none, loopTx := none }
    if s.loop = .running then s else cancelSift s
  | none => s

/-! ## Events of the engine -/

/-- Change the transaction record. -/
def updTxn (f : Transaction → Transaction) (s : State) : State := { s with txn := s.txn.map f }

/-- R64: the last byte of the call has been sent; a dominant level already present counts as activity. -/
def callEnded (s : State) : State :=
  if s.engine = .calling then
    updTxn (fun t => { t with heard := if s.lineDominant then .activity else .nothing })
      { s with engine := .awaiting, loopTx := none }
  else s

/-- R67: the CONFIRM of a DATA. -/
def confirmFrame (t : Transaction) (seq : Bool) : LoopFrame :=
  ⟨typeConfirm, byteOf t.addr, pipeSeqByte t.pipe seq, []⟩

/-- R67, R70, R71: a VALID DATA is accepted where its bit equals the expected bit sent in the FETCH, else it is a
duplicate; the CONFIRM is sent for either. -/
def dataHeard (t : Transaction) (seq : Bool) (payload : List Byte) (s : State) : State :=
  updTxn (fun u => { u with verdict := some ⟨seq == t.seq, seq⟩ })
    (writeCatch payload { s with engine := .confirming, loopTx := some (confirmFrame t seq) })

/-- R65, R66: settle a VALID answer. -/
def settleValid (t : Transaction) (v : ValidAnswer) (s : State) : State :=
  match v with
  | .data seq payload => dataHeard t seq payload s
  | .ends e => endTxn e s

/-- R61, R65: the answer heard, if the receiver still listens for one and it is VALID. -/
def validAnswer (t : Transaction) (rx : LoopRx) : Option ValidAnswer :=
  if t.heard = .unacceptable then none else (readLoop rx).bind (classify t)

/-- R61, R69: the payload bytes of a DATA frame that the receiver has stored from these bytes. Once LEN has shown the
frame to be faulty it stores none. -/
def storedPayload (bytes : List Byte) : List Byte :=
  match bytes with
  | type :: _ :: _ :: len :: rest => if type = typeData ∧ len.toNat ≤ Config.blockPayload then rest.take len.toNat else []
  | _ => []

/-- R7, R69: while an answer to a FETCH is being received, the payload bytes of a DATA are written into the catch block,
whatever its class turns out to be (log 18). -/
def storeHeard (t : Transaction) (rx : LoopRx) (s : State) : State :=
  if t.call = .fetch ∧ t.heard ≠ .unacceptable ∧ storedPayload rx.bytes ≠ [] then writeCatch (storedPayload rx.bytes) s
  else s

/-- R61, R65: a frame is heard. The receiver is used in AWAITING alone; a VALID answer is settled at its last byte,
and an unacceptable one waits for the line to fall quiet (GARBLED_SETTLED). -/
def hearFrame (rx : LoopRx) (s : State) : State :=
  match s.engine, s.txn with
  | .awaiting, some t =>
    match validAnswer t rx with
    | some v => settleValid t v s
    | none => updTxn (fun u => { u with heard := .unacceptable }) (storeHeard t rx s)
  | _, _ => s

/-- R173: a node's frame of this type, its check right. -/
def nodeFrame (type addr pipeSeq : Byte) (payload : List Byte) : LoopRx :=
  ⟨encodeLoop ⟨type, addr, pipeSeq, payload⟩, none⟩

/-- R65: an answer was heard: bytes, or activity already noted. -/
def somethingHeard (t : Transaction) (rx : LoopRx) : Bool := t.heard ≠ .nothing ∨ rx.bytes ≠ [] ∨ rx.stopFault ≠ none

/-- R65: what was heard is followed by quiet: GARBLED, unless it was acceptable, which is settled as VALID. -/
def quietAfter (rx : LoopRx) (s : State) : State :=
  match s.engine, s.txn with
  | .awaiting, some t =>
    match validAnswer t rx with
    | some v => settleValid t v s
    | none => if somethingHeard t rx then endTxn .garbled (storeHeard t rx s) else s
  | _, _ => s

/-- R64: the reply window runs out; once activity has begun it no longer bounds the engine. -/
def windowExpired (s : State) : State :=
  match s.engine, s.txn with
  | .awaiting, some t => if t.heard = .nothing then endTxn .unanswered s else s
  | _, _ => s

/-- R7, R64, R79: an answer to a FETCH is cut off while it is being received, by the limit or by a line fault. What it
wrote in the catch block is a free value (log 18). -/
def storeCutOff (t : Transaction) (s : State) : State :=
  if t.call = .fetch ∧ t.heard = .activity then
    writeCatch ((Config.bytesBeforeCut s.draws).take Config.blockPayload) { s with draws := s.draws + 1 }
  else s

/-- R64: 2100 µs after activity began, whatever the line is doing. -/
def garbleLimit (s : State) : State :=
  match s.engine, s.txn with
  | .awaiting, some t => if t.heard = .nothing then s else endTxn .garbled (storeCutOff t s)
  | _, _ => s

/-- R67, R70, R71: the last byte of the CONFIRM has been sent. -/
def confirmEnded (s : State) : State :=
  match s.engine, s.txn with
  | .confirming, some t =>
    match t.verdict with
    | some v => endTxn (if v.accepted then .accepted else .duplicate) s
    | none => s
  | _, _ => s

/-- R62: 20 µs of turnaround have passed. -/
def turnaroundEnded (s : State) : State :=
  if s.engine = .turnaround then { s with engine := .idle } else s

/-- R79: what the owners are told when a line fault abandons the transaction. -/
def abandonedEnd (t : Transaction) : TxnEnd :=
  match t.verdict with
  | some v => if v.accepted then .accepted else .abandoned
  | none => .abandoned

/-- R79: a line fault takes the engine to IDLE and abandons the transaction in flight, cutting off an answer that has
begun and is not yet heard. -/
def abandonTxn (s : State) : State :=
  let idled := { s with engine := .idle, txn := none, loopTx := none }
  match s.txn with
  | some t => reportEnd t (abandonedEnd t) (if t.verdict = none then storeCutOff t idled else idled)
  | none => idled

end Sys2Proof.Machine
end

