-- ==== Sys2Proof/Machine/LineControl.lean ====
section
/-! DEFINITION. The Line Controller (chapter 7): loop parameters, loop-state requests, drains, line reset, rest and
wake, line faults. -/

namespace Sys2Proof.Machine

/-! ## The loop-control slot (R121) -/

/-- R121: a loop-state request enters the slot and its reply is deferred. -/
def enterSlot (tag : Byte) (r : LoopRequest) (s : State) : State :=
  deferReply tag .loopControl { s with loopSlot := some ⟨r, 0, 0⟩ }

/-- R123, R128: the fields of the reply of the request in the slot. -/
def slotFields (sl : LoopSlot) : ReplyFields :=
  match sl.request with
  | .reset => .lineReset sl.pipes sl.blocks
  | .start => .none
  | .stop => .none
  | .rest => .none
  | .wake => .none

/-- R121: compose the reply of the request in the slot, if there is one, and empty the slot. -/
def answerSlot (code : Code) (s : State) : State :=
  match s.loopSlot with
  | some sl => answerDeferred .loopControl code (slotFields sl) { s with loopSlot := none }
  | none => s

/-! ## Loop parameters (R122) -/

/-- R167: the auto-wake setting a code names. -/
def autoWakeOf (b : Byte) : Option Bool := if b = 0x00#8 then some false else if b = 0x01#8 then some true else none

/-- R122: the parameters a SET-LOOP carries, if every value lies in its range. -/
def paramsOf (period window tries loss interval : Nat) (auto : Byte) : Option Params :=
  if period < 2 ∨ 100 < period then none
  else if window < 50 ∨ 1000 < window ∨ window % 10 ≠ 0 then none
  else if tries < 1 ∨ 7 < tries then none
  else if loss < 2 ∨ 32 < loss then none
  else if interval < 16 then none
  else (autoWakeOf auto).map fun a => ⟨period, window, tries, loss, interval, a⟩

/-- R122: SET-LOOP, its checks in order. -/
def requestSetLoop (tag period wlo whi tries loss interval auto : Byte) (s : State) : State :=
  if s.loop ≠ .off ∧ s.loop ≠ .stopped then answer tag .loopState .none s
  else match paramsOf period.toNat (nat16 wlo whi) tries.toNat loss.toNat interval.toNat auto with
    | some p => answer tag .ok .none { s with params := p, recallCountdown := p.recallInterval }
    | none => answer tag .badField .none s

/-! ## Leaving RUNNING, and drains (R117, R125, R129) -/

/-- R117: as the loop leaves RUNNING, a sift with no call in flight is cancelled at once. -/
def cancelIdleSift (s : State) : State := if siftCallInFlight s then s else cancelSift s

/-- R125, R126, R128: the loop leaves RUNNING for DRAINING: the round timer stops and an active sift is cancelled. -/
def beginDrain (t : DrainTarget) (s : State) : State :=
  cancelIdleSift { s with loop := .draining, drainTarget := some t, roundTimer := false }

/-- R56, R100: the due list is cleared and each DISMISSING node settled. -/
def clearAndSettle (s : State) : State := settleDismissals (clearDue s)

/-- R125, R129: the loop enters STOPPED at the end of a drain or at once; a dominant level is no longer measured
(R133). -/
def enterStopped (s : State) : State :=
  clearAndSettle { s with loop := .stopped, drainTarget := none, roundTimer := false, domTimer := false }

/-- R131: the REST broadcast. -/
def restFrame : LoopFrame := ⟨typeRest, byteOf Config.broadcast, 0x00#8, []⟩

/-- R132: the WAKE broadcast. -/
def wakeFrame : LoopFrame := ⟨typeWake, byteOf Config.broadcast, 0x00#8, []⟩

/-- R56, R126, R131: the due list is cleared as the REST broadcast begins. -/
def sendRest (s : State) : State :=
  clearAndSettle { s with phase := .restFrame, loopTx := some restFrame }

/-! ## The line reset (R130) -/

/-- R20: a block in the catch slot joins the free list first. R42: every pipe is removed in handle order. -/
def dropAllPipes (s : State) : State :=
  let s := catchToFree s
  removePipes (s.pipes.map (·.handle)) s

/-- R104: every record is removed and the barred set emptied. -/
def dropAllNodes (s : State) : State := { s with nodes := [], barred := [] }

/-- R128: what the line reset removed is kept for the reply. -/
def noteRemoved (pipes blocks : Nat) (s : State) : State :=
  { s with loopSlot := s.loopSlot.map fun sl => { sl with pipes := pipes, blocks := blocks } }

/-- R58, R48: the due list is emptied and the recall countdown loaded; R100: DISMISSING nodes are settled. -/
def resetDue (s : State) : State := settleDismissals { s with due := [], recallCountdown := s.params.recallInterval }

/-- R130: entry to RESETTING, the effect on each block in order, and the 20 ms drive. -/
def enterResetting (s : State) : State :=
  let s := resetDue { s with
    loop := .resetting, drainTarget := none, phase := .resetDrive, domTimer := false, roundTimer := false }
  let s := noteRemoved s.pipes.length (queuedBlocks s) s
  dropAllNodes (dropAllPipes s)

/-- R124, R128, R130: the settle ends with the line recessive. -/
def endSettle (s : State) : State :=
  let s := { s with phase := .quiet }
  let s := if s.resume then enterRunning s else { s with loop := .stopped, domTimer := false }
  answerSlot .ok s

/-- R130: the 20 ms of drive end; a level then present is measured from that moment. -/
def driveEnded (s : State) : State :=
  if s.phase = .resetDrive then { s with phase := .resetSettle, domTimer := s.lineDominant } else s

/-- R130: 10 ms of settle have passed; under a dominant level the settle runs on. -/
def settleExpired (s : State) : State :=
  if s.phase = .resetSettle then
    if s.lineDominant then { s with phase := .settleExtended } else endSettle s
  else s

/-! ## The end of a drain (R129) -/

/-- R129: the drain has reached its target, where the transaction has ended and the turnaround is over if the target
puts something on the line. -/
def reachTarget (s : State) : State :=
  match s.drainTarget with
  | some .stopped => answerSlot .ok (enterStopped s)
  | some .resting => if s.engine = .idle then sendRest s else s
  | some .resetting => if s.engine = .idle then enterResetting s else s
  | none => s

/-- R129: the drain waits while a transaction is in flight; a REST broadcast under way has ended its wait. -/
def drainEnded (s : State) : State :=
  if s.loop = .draining ∧ s.txn = none ∧ s.phase = .quiet then reachTarget s else s

/-! ## The loop-state requests (R123) -/

/-- R123, R124: START-LOOP. -/
def requestStartLoop (tag : Byte) (s : State) : State :=
  match s.loop with
  | .off => enterResetting (enterSlot tag .start { s with resume := true })
  | .stopped => if s.lineDominant then answer tag .lineFault .none s else answer tag .ok .none (enterRunning s)
  | .running => answer tag .ok .none s
  | .resting => answer tag .loopState .none s
  | .draining => answer tag .busy .none s
  | .resetting => answer tag .busy .none s
  | .waking => answer tag .busy .none s

/-- R123, R125: STOP-LOOP. -/
def requestStopLoop (tag : Byte) (s : State) : State :=
  match s.loop with
  | .off => answer tag .ok .none s
  | .stopped => answer tag .ok .none s
  | .running =>
    if s.txn = none then answer tag .ok .none (enterStopped (beginDrain .stopped s))
    else beginDrain .stopped (enterSlot tag .stop s)
  | .resting => answer tag .loopState .none s
  | .draining => answer tag .busy .none s
  | .resetting => answer tag .busy .none s
  | .waking => answer tag .busy .none s

/-- R123, R126: REST-LOOP. -/
def requestRestLoop (tag : Byte) (s : State) : State :=
  match s.loop with
  | .off => answer tag .loopState .none s
  | .stopped => answer tag .loopState .none s
  | .running => drainEnded (beginDrain .resting (enterSlot tag .rest s))
  | .resting => answer tag .ok .none s
  | .draining => answer tag .busy .none s
  | .resetting => answer tag .busy .none s
  | .waking => answer tag .busy .none s

/-- R132: the WAKE broadcast begins. -/
def startWake (s : State) : State := { s with loop := .waking, phase := .wakeFrame, loopTx := some wakeFrame }

/-- R132: entry to WAKING on WAKE-LOOP; under a dominant level the broadcast waits for the line to fall recessive. -/
def enterWaking (s : State) : State :=
  if s.lineDominant then { s with loop := .waking, phase := .wakeWait } else startWake s

/-- R123, R127: WAKE-LOOP. -/
def requestWakeLoop (tag : Byte) (s : State) : State :=
  match s.loop with
  | .off => answer tag .loopState .none s
  | .stopped => answer tag .loopState .none s
  | .running => answer tag .ok .none s
  | .resting => enterWaking (enterSlot tag .wake s)
  | .draining => answer tag .busy .none s
  | .resetting => answer tag .busy .none s
  | .waking => answer tag .busy .none s

/-- R123, R128: LINE-RESET. -/
def requestLineReset (tag : Byte) (s : State) : State :=
  match s.loop with
  | .off => enterResetting (enterSlot tag .reset { s with resume := false })
  | .stopped => enterResetting (enterSlot tag .reset { s with resume := false })
  | .resting => enterResetting (enterSlot tag .reset { s with resume := false })
  | .running => drainEnded (beginDrain .resetting (enterSlot tag .reset { s with resume := true }))
  | .draining => answer tag .busy (.lineReset 0 0) s
  | .resetting => answer tag .busy (.lineReset 0 0) s
  | .waking => answer tag .busy (.lineReset 0 0) s

/-! ## Rest and wake (R131, R132) -/

/-- R131: the REST frame has ended: RESTING, and a level already present is measured from this moment. -/
def restEnded (s : State) : State :=
  if s.phase = .restFrame then
    answerSlot .ok
      { s with loop := .resting, phase := .quiet, drainTarget := none, loopTx := none, domTimer := s.lineDominant }
  else s

/-- R132: the WAKE frame has ended: the wake settle starts. -/
def wakeEnded (s : State) : State :=
  if s.phase = .wakeFrame then { s with phase := .wakeSettle, loopTx := none } else s

/-- R132: the wake settle ends: RUNNING with a round start, and the WAKE-LOOP reply, if one waits. -/
def wakeSettled (s : State) : State :=
  if s.phase = .wakeSettle then answerSlot .ok (enterRunning { s with phase := .quiet }) else s

/-! ## The line level (R131, R133) -/

/-- R64: activity in the reply window. -/
def noteActivity (s : State) : State :=
  if s.engine = .awaiting then
    updTxn (fun t => { t with heard := if t.heard = .nothing then .activity else t.heard }) s
  else s

/-- R64, R133: the line goes dominant: the dominant timer starts in a watched state, and the engine notes activity. -/
def lineWentDominant (s : State) : State :=
  if s.lineDominant then s else noteActivity { s with lineDominant := true, domTimer := lineWatched s }

/-- R131: a wake pulse in RESTING makes WAKE-SEEN and, with auto-wake on, wakes the loop. -/
def wakePulse (s : State) : State :=
  let s := notify .wakeSeen s
  if s.params.autoWake then startWake s else s

/-- R130, R131, R132: what a return to recessive ends, by the loop state. -/
def levelEnded (lasted : Nat) (s : State) : State :=
  match s.loop with
  | .resting => if isWakePulse lasted then wakePulse s else s
  | .waking => if s.phase = .wakeWait then startWake s else s
  | .resetting => if s.phase = .settleExtended then endSettle s else s
  | .off => s
  | .stopped => s
  | .running => s
  | .draining => s

/-- R131, R133: the line returns to recessive and the dominant timer is cleared. -/
def lineWentRecessive (lasted : Nat) (s : State) : State :=
  if s.lineDominant then levelEnded lasted { s with lineDominant := false, domTimer := false } else s

/-! ## Line faults (R134) -/

/-- R134 step 4: timers stop, a broadcast is cut off, and the loop enters STOPPED. -/
def stopForFault (s : State) : State :=
  { s with roundTimer := false, phase := .quiet, loopTx := none, drainTarget := none, resume := false, domTimer := false,
           loop := .stopped }

/-- R134 step 6: the line faults counter is raised and LINE-FAULT created. -/
def reportFault (during : LoopState) (s : State) : State :=
  notify (.lineFault during)
    { s with counters := { s.counters with lineFaults := sat16 s.counters.lineFaults } }

/-- R133, R134: the dominant timer passes the limit for the loop state; the six steps in order. -/
def takeLineFault (s : State) : State :=
  if s.domTimer then
    reportFault s.loop (answerSlot .lineFault (stopForFault (cancelSift (clearAndSettle (abandonTxn s)))))
  else s

end Sys2Proof.Machine
end

