-- ==== Sys2Proof/Machine/Notices.lean ====
section
/-! DEFINITION. The Notice Unit's own events (chapter 9): ACK-NOTICES, the resend timer, the end of a frame. -/

namespace Sys2Proof.Machine

/-- R162: the number of notices from the head up to and with the one that bears a number; none if it is not held. -/
def ackCount (n : Nat) : List Notice → Option Nat
  | [] => none
  | m :: ms => if m.number = n then some 1 else (ackCount n ms).map (· + 1)

/-- R158: after a removal, NOTICES-MISSED is created to carry a missed count above 0, which is then 0. -/
def reportMissed (s : State) : State :=
  if 0 < s.missed then { notify (.noticesMissed s.missed) s with missed := 0 } else s

/-- R160, R162: the notices named are removed, the resend timer restarted and the losses reported. -/
def removeNotices (k : Nat) (s : State) : State :=
  reportMissed { s with notices := s.notices.drop k, resendTimer := true }

/-- R162: ACK-NOTICES. -/
def requestAckNotices (tag lo hi : Byte) (s : State) : State :=
  match ackCount (nat16 lo hi) s.notices with
  | some k => answer tag .ok (.ackNotices k) (removeNotices k s)
  | none => answer tag .notHeld (.ackNotices 0) s

/-- R161: the notice is being sent. -/
def beingSent (n : Notice) (s : State) : Bool :=
  match s.tx with
  | some f => f.kind = .notice n.number
  | none => false

/-- R161: mark a notice for sending again, unless it is unsent or being sent. -/
def markResend (s : State) (n : Notice) : Notice :=
  if n.unsent = true ∨ beingSent n s = true then n else { n with unsent := true, resend := true }

/-- R161: the resend timer expires and stops. -/
def resendExpired (s : State) : State :=
  if s.resendTimer then { s with notices := s.notices.map (markResend s), resendTimer := false } else s

end Sys2Proof.Machine
end

