-- ==== Sys2Proof/Machine/HostPort.lean ====
section
/-! DEFINITION. The Host Port and the Request Handler (chapter 8): the frame receiver, admission, checking and
dispatch, READ-STATUS, and the end of a frame on HTX. -/

namespace Sys2Proof.Machine

/-! ## READ-STATUS (R148) -/

/-- R148: the report, from the state as it stands. -/
def statusReport (s : State) : StatusReport :=
  { loop := s.loop, siftActive := siftActive s, freeCount := s.free.length, retainedCount := retainedCount s,
    nodeCount := s.nodes.length, pipeCount := s.pipes.length, dueCount := s.due.length, counters := s.counters }

/-- R148: READ-STATUS; the counters are cleared once their values are in the reply. -/
def requestReadStatus (tag flags : Byte) (s : State) : State :=
  answer tag .ok (.readStatus (statusReport s)) (if flagBit flags then { s with counters := zeroCounters } else s)

/-! ## Checking and dispatch (R142, R170) -/

/-- R142, R170: a request of a known kind is checked for its length and dispatched to its owner. -/
def dispatch (kind tag : Byte) (fields : List Byte) (s : State) : State :=
  let badLength := answer tag .badLength .none s
  match kind.toNat with
  | 0x01 => match fields with
    | [] => answer tag .ok .queryPart s
    | _ => badLength
  | 0x02 => match fields with
    | [flags] => requestReadStatus tag flags s
    | _ => badLength
  | 0x03 => badLength
  | 0x04 => match fields with
    | [period, wlo, whi, tries, loss, interval, auto] => requestSetLoop tag period wlo whi tries loss interval auto s
    | _ => badLength
  | 0x05 => match fields with
    | [] => requestStartLoop tag s
    | _ => badLength
  | 0x06 => match fields with
    | [] => requestStopLoop tag s
    | _ => badLength
  | 0x07 => match fields with
    | [] => requestRestLoop tag s
    | _ => badLength
  | 0x08 => match fields with
    | [] => requestWakeLoop tag s
    | _ => badLength
  | 0x09 => match fields with
    | [] => requestLineReset tag s
    | _ => badLength
  | 0x0A => match fields with
    | [] => requestSift tag s
    | _ => badLength
  | 0x0B => match fields with
    | [addr] => requestReadNode tag addr s
    | _ => badLength
  | 0x0C => match fields with
    | [addr] => requestDismissNode tag addr s
    | _ => badLength
  | 0x0D => match fields with
    | [node, number, dir, period, quota] => requestOpenPipe tag node number dir period quota s
    | _ => badLength
  | 0x0E => match fields with
    | [handle] => requestClosePipe tag handle s
    | _ => badLength
  | 0x0F => match fields with
    | [handle] => requestResumePipe tag handle s
    | _ => badLength
  | 0x10 => match fields with
    | [handle] => requestReadPipe tag handle s
    | _ => badLength
  | 0x11 => match fields with
    | handle :: flags :: data =>
      if data = [] ∨ Config.blockPayload < data.length then badLength else requestSend tag handle flags data s
    | _ => badLength
  | 0x12 => match fields with
    | [handle, max, flags, releaseTag] => requestCollect tag handle max flags releaseTag s
    | _ => badLength
  | 0x13 => match fields with
    | [handle] => requestFlush tag handle s
    | _ => badLength
  | 0x14 => match fields with
    | [lo, hi] => requestAckNotices tag lo hi s
    | _ => badLength
  | _ => answer tag .badKind .none s

/-! ## Admission (R140) -/

/-- R141: a refusal goes through the refusal slot; with the slot occupied the request is dropped and counted. -/
def refuseRequest (kind tag : Byte) (code : Code) (s : State) : State :=
  match s.refusal with
  | none => { s with refusal := some ⟨replyKind kind, tag, code, .none⟩ }
  | some _ => { s with counters := { s.counters with requestsDropped := sat16 s.counters.requestsDropped } }

/-- R150: RESTART is admitted outside the window, and its reply is not recorded. -/
def admitRestart (tag : Byte) (s : State) : State :=
  enqueueReply ⟨⟨replyKind kindRestart, tag, .ok, .none⟩, false, true⟩ { s with restartPending := true }

/-- R144: the reply a repeat is answered with: the recorded one, or RELEASED without blocks. -/
def repeatReply (e : RecentEntry) : Reply :=
  if e.released then
    match e.reply.fields with
    | .collect handle release _ remaining =>
      { e.reply with code := .released, fields := .collect handle release 0 remaining }
    | _ => e.reply
  else e.reply

/-- R144: make an entry the newest. -/
def makeNewest (e : RecentEntry) (s : State) : State :=
  { s with recent := s.recent.eraseP (fun x => x.tag == e.tag) ++ [e] }

/-- R139: a request enters the window. -/
def enterWindow (w : WindowEntry) (s : State) : State := { s with window := s.window ++ [w] }

/-- R139, R144: a repeat enters the window and is answered from the record. It is dispatched to no block; what its
owner field holds is the model's choice, the block its kind would go to (DESIGN CHOICE, log entry 20). -/
def answerRepeat (kind : Byte) (e : RecentEntry) (s : State) : State :=
  enqueueReply ⟨repeatReply e, true, false⟩
    (enterWindow ⟨e.tag, kind, e.crc, ownerOf kind, .replyQueued⟩ (makeNewest e s))

/-- R145: an entry whose tag is reused leaves the table and its retained set is freed. -/
def forgetEntry (e : RecentEntry) (s : State) : State :=
  freeBlocks e.retained { s with recent := s.recent.eraseP (fun x => x.tag == e.tag) }

/-- R140 case 7, R142: the request enters the window in EXECUTING and is checked and dispatched. For one answered
BAD-LENGTH or BAD-KIND, which is not dispatched, the owner field is the model's choice (DESIGN CHOICE, log entry 20). -/
def executeRequest (kind tag : Byte) (crc : Check) (fields : List Byte) (s : State) : State :=
  dispatch kind tag fields (enterWindow ⟨tag, kind, crc, ownerOf kind, .executing⟩ s)

/-- R140: admission of a good frame, by the first case that applies. -/
def admitRequest (kind tag : Byte) (crc : Check) (fields : List Byte) (s : State) : State :=
  if s.restartPending then s
  else if kind = kindRestart ∧ fields = [] then admitRestart tag s
  else if s.window.any (fun w => w.tag == tag) then refuseRequest kind tag .tagInUse s
  else if Config.windowSize ≤ s.window.length then refuseRequest kind tag .windowFull s
  else match s.recent.find? fun e => e.tag == tag with
    | some e => if e.crc = crc then answerRepeat kind e s else executeRequest kind tag crc fields (forgetEntry e s)
    | none => executeRequest kind tag crc fields s

/-- R138, R140: the receiver hands a good body to the Request Handler. A body has at least KIND and TAG. -/
def admitBody (body : List Byte) (crc : Check) (s : State) : State :=
  match body with
  | kind :: tag :: fields => admitRequest kind tag crc fields s
  | _ => s

/-! ## The frame receiver (R137, R138) -/

/-- R137: the receiver in HUNT with nothing stored and the timer stopped. -/
def huntRx : Receiver := ⟨.hunt, [], false⟩

/-- R138: count a rejected frame. -/
def countRejected (s : State) : State :=
  { s with counters := { s.counters with framesRejected := sat16 s.counters.framesRejected } }

/-- R137: the LEN byte of the frame being stored. -/
def storedLen (stored : List Byte) : Nat := (stored.getD 1 0#8).toNat

/-- R138: the body of a whole stored frame. -/
def storedBody (stored : List Byte) : List Byte := (stored.drop 2).take (storedLen stored)

/-- R138: the check computed over the stored LEN and body. -/
def storedCheck (stored : List Byte) : Check := crcOf (stored.getD 1 0#8 :: storedBody stored)

/-- R138: the check received agrees with the one computed, low byte first. -/
def checkAgrees (stored : List Byte) : Bool :=
  (stored.drop (2 + storedLen stored)) == bytesOfCheck (storedCheck stored)

/-- R138: a discard: the frame is counted and the receiver returns to HUNT. -/
def discardFrame (s : State) : State := countRejected { s with rx := huntRx }

/-- R137, R138, R146: the second CRC byte has been stored: the frame is good and admitted, upon which an idle transmitter
begins a frame that now waits, or it is discarded. With the new state, the bytes to be taken through the receiver
again. -/
def finishFrame (stored : List Byte) (s : State) : State × List Byte :=
  if checkAgrees stored then (kickTx (admitBody (storedBody stored) (storedCheck stored) { s with rx := huntRx }), [])
  else (discardFrame s, stored.drop 1)

/-- R137: store a byte and be in this state, the inter-byte timer started. -/
def storeByte (state : RxState) (stored : List Byte) (s : State) : State := { s with rx := ⟨state, stored, true⟩ }

/-- R137: one byte, by the receiver's state. With the new state, the bytes to be rescanned (R138). -/
def rxByte (b : Byte) (s : State) : State × List Byte :=
  let stored := s.rx.stored ++ [b]
  match s.rx.state with
  | .hunt => if b = Config.sync then (storeByte .length [b] s, []) else (s, [])
  | .length =>
    if Config.minBody ≤ b.toNat ∧ b.toNat ≤ Config.maxBody then (storeByte .body stored s, [])
    else (discardFrame s, stored.drop 1)
  | .body => (storeByte (if stored.length < 2 + storedLen stored then .body else .crc) stored s, [])
  | .crc => if stored.length < 4 + storedLen stored then (storeByte .crc stored s, []) else finishFrame stored s

/-- R137, R138: take bytes through the receiver, the bytes of a discarded frame again before those behind them. The
first argument bounds the bytes taken; `rxFuel` of them is always enough. -/
def rxBytes : Nat → List Byte → State → State
  | 0, _, s => s
  | _ + 1, [], s => s
  | fuel + 1, b :: bs, s => rxBytes fuel ((rxByte b s).2 ++ bs) (rxByte b s).1

/-- R138: each discard drops one stored byte for good, so this many bytes are taken at most. -/
def rxFuel (bytes : List Byte) (s : State) : Nat := (s.rx.stored.length + bytes.length + 1) * (s.rx.stored.length + bytes.length + 1)

/-- R137, R138: bytes arrive on HRX. -/
def receive (bytes : List Byte) (s : State) : State := rxBytes (rxFuel bytes s) bytes s

/-- R137, R138: 5 ms pass without a byte: a frame being received is discarded and its stored bytes rescanned. -/
def interByteTimeout (s : State) : State :=
  match s.rx.state with
  | .hunt => s
  | .length => receive (s.rx.stored.drop 1) (discardFrame s)
  | .body => receive (s.rx.stored.drop 1) (discardFrame s)
  | .crc => receive (s.rx.stored.drop 1) (discardFrame s)

/-- R169: the body of a request, and its frame as it arrives on HRX. -/
def requestFrame (kind tag : Byte) (fields : List Byte) : List Byte := hostFrame (kind :: tag :: fields)

/-! ## The end of a frame on HTX (R146, R151) -/

/-- R151: RESTART takes effect. -/
def restartEffect (s : State) : State := startPart .restart s

/-- R146: a reply frame has ended: the reply leaves the queue and its entry leaves the window; the RESTART reply takes
effect. -/
def replyEnded (s : State) : State :=
  match s.replyQueue with
  | q :: qs =>
    if q.restart then restartEffect s
    else { s with replyQueue := qs, window := s.window.eraseP fun w => w.tag == q.reply.tag }
  | [] => s

/-- R146, R159: the last byte of the frame on HTX has been sent. -/
def frameEnded (s : State) : State :=
  match s.tx with
  | some f =>
    match f.kind with
    | .refusal => { s with tx := none, refusal := none }
    | .reply => replyEnded { s with tx := none }
    | .notice _ => { s with tx := none, resendTimer := true }
  | none => s

end Sys2Proof.Machine
end

