-- ==== Sys2Proof/Machine/Requests.lean ====
section
/-! DEFINITION. The meanings of the host's commands: each is a frame that arrives on HRX, taken through the receiver
(R137, R138) to admission (R140), dispatch (R142) and its owner. -/

namespace Sys2Proof.Machine

abbrev Result := Host.Outcome State Fault Refusal

/-- R137: a request's frame arrives on HRX whole. -/
def hostRequest (kind tag : Byte) (fields : List Byte) (s : State) : Result :=
  live (receive (requestFrame kind tag fields)) s

/-- HOST_FRAME_DISCARD (R138): bytes arrive, among them a frame that the receiver discards and rescans. -/
def execHostFrameDiscard (bytes : List Byte) (s : State) : Result := live (receive bytes) s

/-- HOST_INTERBYTE_TIMEOUT (R137): bytes arrive and 5 ms pass without another. -/
def execHostInterbyteTimeout (bytes : List Byte) (s : State) : Result :=
  live (fun s => interByteTimeout (receive bytes s)) s

/-- BAD_KIND_REQUEST (R142). -/
def execBadKindRequest (kind tag : Byte) (fields : List Byte) (s : State) : Result := hostRequest kind tag fields s

/-- QUERY-PART (R147). -/
def execQueryPart (tag : Byte) (fields : List Byte) (s : State) : Result := hostRequest kindQueryPart tag fields s

/-- READ-STATUS (R148). -/
def execReadStatus (tag : Byte) (fields : List Byte) (s : State) : Result := hostRequest kindReadStatus tag fields s

/-- RESTART (R150). -/
def execRestart (tag : Byte) (fields : List Byte) (s : State) : Result := hostRequest kindRestart tag fields s

/-- SET-LOOP (R122). -/
def execSetLoop (tag : Byte) (fields : List Byte) (s : State) : Result := hostRequest kindSetLoop tag fields s

/-- START-LOOP (R124). -/
def execStartLoop (tag : Byte) (fields : List Byte) (s : State) : Result := hostRequest kindStartLoop tag fields s

/-- STOP-LOOP (R125). -/
def execStopLoop (tag : Byte) (fields : List Byte) (s : State) : Result := hostRequest kindStopLoop tag fields s

/-- REST-LOOP (R126). -/
def execRestLoop (tag : Byte) (fields : List Byte) (s : State) : Result := hostRequest kindRestLoop tag fields s

/-- WAKE-LOOP (R127). -/
def execWakeLoop (tag : Byte) (fields : List Byte) (s : State) : Result := hostRequest kindWakeLoop tag fields s

/-- LINE-RESET (R128). -/
def execLineReset (tag : Byte) (fields : List Byte) (s : State) : Result := hostRequest kindLineReset tag fields s

/-- SIFT (R107). -/
def execSift (tag : Byte) (fields : List Byte) (s : State) : Result := hostRequest kindSift tag fields s

/-- READ-NODE (R102). -/
def execReadNode (tag : Byte) (fields : List Byte) (s : State) : Result := hostRequest kindReadNode tag fields s

/-- DISMISS-NODE (R96). -/
def execDismissNode (tag : Byte) (fields : List Byte) (s : State) : Result := hostRequest kindDismissNode tag fields s

/-- OPEN-PIPE (R26). -/
def execOpenPipe (tag : Byte) (fields : List Byte) (s : State) : Result := hostRequest kindOpenPipe tag fields s

/-- CLOSE-PIPE (R36). -/
def execClosePipe (tag : Byte) (fields : List Byte) (s : State) : Result := hostRequest kindClosePipe tag fields s

/-- RESUME-PIPE (R35). -/
def execResumePipe (tag : Byte) (fields : List Byte) (s : State) : Result := hostRequest kindResumePipe tag fields s

/-- READ-PIPE (R38). -/
def execReadPipe (tag : Byte) (fields : List Byte) (s : State) : Result := hostRequest kindReadPipe tag fields s

/-- SEND (R10). -/
def execSend (tag : Byte) (fields : List Byte) (s : State) : Result := hostRequest kindSend tag fields s

/-- COLLECT (R12, R13). -/
def execCollect (tag : Byte) (fields : List Byte) (s : State) : Result := hostRequest kindCollect tag fields s

/-- FLUSH (R14). -/
def execFlush (tag : Byte) (fields : List Byte) (s : State) : Result := hostRequest kindFlush tag fields s

/-- ACK-NOTICES (R162). -/
def execAckNotices (tag : Byte) (fields : List Byte) (s : State) : Result := hostRequest kindAckNotices tag fields s

end Sys2Proof.Machine
end

