-- ==== Sys2Proof/Machine/Events.lean ====
section
/-! DEFINITION. The meanings of the part's other commands: power and the reset pin, the end of a frame on HTX, the
scheduler's events, the calls and answers of the loop, and the events of the Line Controller. -/

namespace Sys2Proof.Machine

/-! ## Power and the reset pin (R136, R152) -/

/-- The straps stand at these levels. -/
def setStraps (rate1 rate0 : Bool) (s : State) : State := { s with rate1 := rate1, rate0 := rate0 }

/-- R136: the straps are read. -/
def readStraps (s : State) : State := { s with hostRate := rateOf s.rate1 s.rate0 }

/-- R152: the part leaves reset: it reads the straps, every block starts, READY is created with its cause, and the
transmitter begins its frame. -/
def leaveReset (s : State) : State :=
  kickTx { startPart (if s.cold then .power else .pin) (readStraps s) with cold := false }

/-- POWER_UP (R136, R152): the straps are read and every block is in its power-up state; the part leaves reset unless
RSTn is also held low. -/
def execPowerUp (rate1 rate0 : Bool) (s : State) : Result :=
  let s := readStraps (setStraps rate1 rate0 { blankPart s with cold := true })
  .next (if s.rstHigh then leaveReset s else s)

/-- RESET_PIN_ASSERT (R152): the part is held in reset, each block in its power-up state, HTX idle and the loop left
recessive. -/
def execResetPinAssert (s : State) : Result := .next { blankPart s with rstHigh := false }

/-- RESET_PIN_RELEASE (R136, R152): the part leaves the reset that RSTn held it in. With RSTn already high nothing is
released (log 14). -/
def execResetPinRelease (rate1 rate0 : Bool) (s : State) : Result :=
  .next (if s.rstHigh then s else leaveReset (setStraps rate1 rate0 { s with rstHigh := true }))

/-! ## Host Port and Notice Unit -/

/-- HOST_FRAME_SENT (R146). -/
def execHostFrameSent (s : State) : Result := live frameEnded s

/-- RESEND_TIMER_EXPIRY (R161). -/
def execResendTimerExpiry (s : State) : Result := live resendExpired s

/-! ## Round Scheduler -/

/-- ROUND_START (R45): a round start falls while the round timer runs (R44). -/
def execRoundStart (s : State) : Result := live (fun s => if s.roundTimer then roundStep s else s) s

/-- RECALL_COUNTDOWN_EXPIRY (R48): the recall countdown reaches 0, which a round start alone brings about, and only the
one that finds the countdown at its last round: the command is that round start (log 8). -/
def execRecallCountdownExpiry (s : State) : Result :=
  live (fun s => if s.roundTimer ∧ s.recallCountdown ≤ 1 then roundStep s else s) s

/-- SERVE_DUE_ENTRY (R53). -/
def execServeDueEntry (s : State) : Result := live serveHead s

/-! ## Loop Engine -/

/-- CALL_SENT (R64). -/
def execCallSent (s : State) : Result := live callEnded s

/-- REPLY_WINDOW_EXPIRY (R64). -/
def execReplyWindowExpiry (s : State) : Result := live windowExpired s

/-- GARBLED_SETTLED (R65). -/
def execGarbledSettled (heard : LoopRx) (s : State) : Result := live (quietAfter heard) s

/-- GARBLE_LIMIT_EXPIRY (R64). -/
def execGarbleLimitExpiry (s : State) : Result := live garbleLimit s

/-- A node's frame of this type is heard on the loop (R61, R65, R173). -/
def nodeAnswer (type addr pipeSeq : Byte) (payload : List Byte) (s : State) : Result :=
  live (hearFrame (nodeFrame type addr pipeSeq payload)) s

/-- DATA (R70). -/
def execData (addr pipeSeq : Byte) (payload : List Byte) (s : State) : Result :=
  nodeAnswer typeData addr pipeSeq payload s

/-- TAKEN (R75). -/
def execTaken (addr pipeSeq : Byte) (payload : List Byte) (s : State) : Result :=
  nodeAnswer typeTaken addr pipeSeq payload s

/-- HOLD (R33). -/
def execHold (addr pipeSeq : Byte) (payload : List Byte) (s : State) : Result :=
  nodeAnswer typeHold addr pipeSeq payload s

/-- REFUSE (R32). -/
def execRefuse (addr pipeSeq : Byte) (payload : List Byte) (s : State) : Result :=
  nodeAnswer typeRefuse addr pipeSeq payload s

/-- CLEARED (R31). -/
def execCleared (addr pipeSeq : Byte) (payload : List Byte) (s : State) : Result :=
  nodeAnswer typeCleared addr pipeSeq payload s

/-- PRESENT (R93). -/
def execPresent (addr pipeSeq : Byte) (payload : List Byte) (s : State) : Result :=
  nodeAnswer typePresent addr pipeSeq payload s

/-- DISMISSED (R98). -/
def execDismissed (addr pipeSeq : Byte) (payload : List Byte) (s : State) : Result :=
  nodeAnswer typeDismissed addr pipeSeq payload s

/-- IDENT (R110). -/
def execIdent (addr pipeSeq : Byte) (payload : List Byte) (s : State) : Result :=
  nodeAnswer typeIdent addr pipeSeq payload s

/-- ADOPTED (R113). -/
def execAdopted (addr pipeSeq : Byte) (payload : List Byte) (s : State) : Result :=
  nodeAnswer typeAdopted addr pipeSeq payload s

/-- CONFIRM_SENT (R67). -/
def execConfirmSent (s : State) : Result := live confirmEnded s

/-- TURNAROUND_END (R62). -/
def execTurnaroundEnd (s : State) : Result := live turnaroundEnded s

/-! ## Line Controller -/

/-- DRAIN_END (R129). -/
def execDrainEnd (s : State) : Result := live drainEnded s

/-- RESET_DRIVE_EXPIRY (R130). -/
def execResetDriveExpiry (s : State) : Result := live driveEnded s

/-- RESET_SETTLE_EXPIRY (R130). -/
def execResetSettleExpiry (s : State) : Result := live settleExpired s

/-- REST_SENT (R131). -/
def execRestSent (s : State) : Result := live restEnded s

/-- WAKE_SENT (R132). -/
def execWakeSent (s : State) : Result := live wakeEnded s

/-- WAKE_SETTLE_EXPIRY (R132). -/
def execWakeSettleExpiry (s : State) : Result := live wakeSettled s

/-- LINE_DOMINANT (R133). While the part is held in reset only the level itself changes. -/
def execLineDominant (s : State) : Result :=
  if s.rstHigh then live lineWentDominant s else .next { s with lineDominant := true }

/-- LINE_RECESSIVE (R131). While the part is held in reset only the level itself changes. -/
def execLineRecessive (lasted : Nat) (s : State) : Result :=
  if s.rstHigh then live (lineWentRecessive lasted) s else .next { s with lineDominant := false }

/-- LINE_FAULT (R134). -/
def execLineFault (s : State) : Result := live takeLineFault s

end Sys2Proof.Machine
end

