-- ==== Sys2Proof/Machine/Dispatch.lean ====
section
/-! DEFINITION. One arm per command, each one direct call of its meaning. -/

namespace Sys2Proof.Machine

def exec (i : Instr) (s : State) : Host.Outcome State Fault Refusal :=
  match i with
  | .powerUp rate1 rate0 => Sys2Proof.Machine.execPowerUp rate1 rate0 s
  | .resetPinAssert => Sys2Proof.Machine.execResetPinAssert s
  | .resetPinRelease rate1 rate0 => Sys2Proof.Machine.execResetPinRelease rate1 rate0 s
  | .hostFrameDiscard bytes => Sys2Proof.Machine.execHostFrameDiscard bytes s
  | .hostInterbyteTimeout bytes => Sys2Proof.Machine.execHostInterbyteTimeout bytes s
  | .badKindRequest kind tag fields => Sys2Proof.Machine.execBadKindRequest kind tag fields s
  | .queryPart tag fields => Sys2Proof.Machine.execQueryPart tag fields s
  | .readStatus tag fields => Sys2Proof.Machine.execReadStatus tag fields s
  | .restart tag fields => Sys2Proof.Machine.execRestart tag fields s
  | .setLoop tag fields => Sys2Proof.Machine.execSetLoop tag fields s
  | .startLoop tag fields => Sys2Proof.Machine.execStartLoop tag fields s
  | .stopLoop tag fields => Sys2Proof.Machine.execStopLoop tag fields s
  | .restLoop tag fields => Sys2Proof.Machine.execRestLoop tag fields s
  | .wakeLoop tag fields => Sys2Proof.Machine.execWakeLoop tag fields s
  | .lineReset tag fields => Sys2Proof.Machine.execLineReset tag fields s
  | .sift tag fields => Sys2Proof.Machine.execSift tag fields s
  | .readNode tag fields => Sys2Proof.Machine.execReadNode tag fields s
  | .dismissNode tag fields => Sys2Proof.Machine.execDismissNode tag fields s
  | .openPipe tag fields => Sys2Proof.Machine.execOpenPipe tag fields s
  | .closePipe tag fields => Sys2Proof.Machine.execClosePipe tag fields s
  | .resumePipe tag fields => Sys2Proof.Machine.execResumePipe tag fields s
  | .readPipe tag fields => Sys2Proof.Machine.execReadPipe tag fields s
  | .send tag fields => Sys2Proof.Machine.execSend tag fields s
  | .collect tag fields => Sys2Proof.Machine.execCollect tag fields s
  | .flush tag fields => Sys2Proof.Machine.execFlush tag fields s
  | .ackNotices tag fields => Sys2Proof.Machine.execAckNotices tag fields s
  | .hostFrameSent => Sys2Proof.Machine.execHostFrameSent s
  | .resendTimerExpiry => Sys2Proof.Machine.execResendTimerExpiry s
  | .roundStart => Sys2Proof.Machine.execRoundStart s
  | .recallCountdownExpiry => Sys2Proof.Machine.execRecallCountdownExpiry s
  | .serveDueEntry => Sys2Proof.Machine.execServeDueEntry s
  | .callSent => Sys2Proof.Machine.execCallSent s
  | .replyWindowExpiry => Sys2Proof.Machine.execReplyWindowExpiry s
  | .garbledSettled heard => Sys2Proof.Machine.execGarbledSettled heard s
  | .garbleLimitExpiry => Sys2Proof.Machine.execGarbleLimitExpiry s
  | .data addr pipeSeq payload => Sys2Proof.Machine.execData addr pipeSeq payload s
  | .taken addr pipeSeq payload => Sys2Proof.Machine.execTaken addr pipeSeq payload s
  | .hold addr pipeSeq payload => Sys2Proof.Machine.execHold addr pipeSeq payload s
  | .refuse addr pipeSeq payload => Sys2Proof.Machine.execRefuse addr pipeSeq payload s
  | .cleared addr pipeSeq payload => Sys2Proof.Machine.execCleared addr pipeSeq payload s
  | .present addr pipeSeq payload => Sys2Proof.Machine.execPresent addr pipeSeq payload s
  | .dismissed addr pipeSeq payload => Sys2Proof.Machine.execDismissed addr pipeSeq payload s
  | .ident addr pipeSeq payload => Sys2Proof.Machine.execIdent addr pipeSeq payload s
  | .adopted addr pipeSeq payload => Sys2Proof.Machine.execAdopted addr pipeSeq payload s
  | .confirmSent => Sys2Proof.Machine.execConfirmSent s
  | .turnaroundEnd => Sys2Proof.Machine.execTurnaroundEnd s
  | .drainEnd => Sys2Proof.Machine.execDrainEnd s
  | .resetDriveExpiry => Sys2Proof.Machine.execResetDriveExpiry s
  | .resetSettleExpiry => Sys2Proof.Machine.execResetSettleExpiry s
  | .restSent => Sys2Proof.Machine.execRestSent s
  | .wakeSent => Sys2Proof.Machine.execWakeSent s
  | .wakeSettleExpiry => Sys2Proof.Machine.execWakeSettleExpiry s
  | .lineDominant => Sys2Proof.Machine.execLineDominant s
  | .lineRecessive lasted => Sys2Proof.Machine.execLineRecessive lasted s
  | .lineFault => Sys2Proof.Machine.execLineFault s

end Sys2Proof.Machine
end

