-- ==== Sys2Proof/Machine/Step.lean ====
section
/-! DEFINITION. One step: take the command at the front of the queue and run it with the queue's rest. -/

namespace Sys2Proof.Machine

/-- Take the first waiting command. On an empty queue the part idles (DESIGN CHOICE, log 1): time-driven events are
commands. -/
def step (s : State) : Host.Outcome State Fault Refusal :=
  match s.pending with
  | c :: rest => exec c { s with pending := rest }
  | [] => .next s

/-- The command a word spells, put at the front of the queue. No row of the table gives bits, so no word spells one
and the state is left as it is (log 1). -/
def State.withFetchWord (s : State) (nbits w : Nat) : State :=
  match decodeTableWord nbits w with
  | some c => { s with pending := c :: s.pending }
  | none => s

end Sys2Proof.Machine
end

