-- ==== Sys2Proof/WellFormed.lean ====
section
/-! DEFINITION. Which commands the two lines of the part can carry: the checks on a command's operands. -/

namespace Sys2Proof

/-- R169: KIND, TAG and these field bytes make a body of 2 to 224 bytes. -/
abbrev fieldsFit (fields : List Byte) : Bool := fields.length + 2 ≤ Config.maxBody

/-- R173: a loop frame's LEN is 0 to 64. -/
abbrev payloadFits (payload : List Byte) : Bool := payload.length ≤ Config.blockPayload

/-- R61: the loop receiver stores at most 70 bytes, and a byte without a valid stop bit is one of those heard. -/
abbrev heardFits (rx : LoopRx) : Bool := rx.bytes.length ≤ 70 ∧ ∀ k ∈ rx.stopFault, k < rx.bytes.length

/-- R142: the request kinds are 01h to 14h. -/
abbrev kindKnown (kind : Byte) : Bool := 1 ≤ kind.toNat && kind.toNat ≤ 0x14

/-- A command whose operands the lines can carry. -/
def Instr.wellFormed : Instr → Bool
  | .powerUp _ _ => true
  | .resetPinAssert => true
  | .resetPinRelease _ _ => true
  | .hostFrameDiscard _ => true
  | .hostInterbyteTimeout _ => true
  | .badKindRequest kind _ fields => !kindKnown kind && fieldsFit fields
  | .queryPart _ fields => fieldsFit fields
  | .readStatus _ fields => fieldsFit fields
  | .restart _ fields => fieldsFit fields
  | .setLoop _ fields => fieldsFit fields
  | .startLoop _ fields => fieldsFit fields
  | .stopLoop _ fields => fieldsFit fields
  | .restLoop _ fields => fieldsFit fields
  | .wakeLoop _ fields => fieldsFit fields
  | .lineReset _ fields => fieldsFit fields
  | .sift _ fields => fieldsFit fields
  | .readNode _ fields => fieldsFit fields
  | .dismissNode _ fields => fieldsFit fields
  | .openPipe _ fields => fieldsFit fields
  | .closePipe _ fields => fieldsFit fields
  | .resumePipe _ fields => fieldsFit fields
  | .readPipe _ fields => fieldsFit fields
  | .send _ fields => fieldsFit fields
  | .collect _ fields => fieldsFit fields
  | .flush _ fields => fieldsFit fields
  | .ackNotices _ fields => fieldsFit fields
  | .hostFrameSent => true
  | .resendTimerExpiry => true
  | .roundStart => true
  | .recallCountdownExpiry => true
  | .serveDueEntry => true
  | .callSent => true
  | .replyWindowExpiry => true
  | .garbledSettled rx => heardFits rx
  | .garbleLimitExpiry => true
  | .data _ _ payload => payloadFits payload
  | .taken _ _ payload => payloadFits payload
  | .hold _ _ payload => payloadFits payload
  | .refuse _ _ payload => payloadFits payload
  | .cleared _ _ payload => payloadFits payload
  | .present _ _ payload => payloadFits payload
  | .dismissed _ _ payload => payloadFits payload
  | .ident _ _ payload => payloadFits payload
  | .adopted _ _ payload => payloadFits payload
  | .confirmSent => true
  | .turnaroundEnd => true
  | .drainEnd => true
  | .resetDriveExpiry => true
  | .resetSettleExpiry => true
  | .restSent => true
  | .wakeSent => true
  | .wakeSettleExpiry => true
  | .lineDominant => true
  | .lineRecessive _ => true
  | .lineFault => true

end Sys2Proof
end

