-- ==== Sys2Proof/Safety.lean ====
section
/-! DEFINITION. The terms the statements about the part use: when a request is taken, what its reply does to the
tables of the Request Handler, and what a consistent part is. -/

namespace Sys2Proof.Machine

/-! ## Requests -/

/-- R168, R169: the frame CRC of a request. -/
def requestCheck (kind tag : Byte) (fields : List Byte) : Check :=
  crcOf (byteOf (fields.length + 2) :: kind :: tag :: fields)

/-- R137, R152: the part is out of reset and its receiver is in HUNT, so that a frame that now arrives is received
from its SYNC. -/
abbrev Listening (s : State) : Prop := s.rstHigh = true ∧ s.rx.state = .hunt

/-- R140, case 7: a request with this tag is new, and the window has room for it. -/
abbrev Accepts (tag : Byte) (s : State) : Prop :=
  Listening s ∧ s.restartPending = false ∧ (∀ w ∈ s.window, w.tag ≠ tag) ∧ s.window.length < Config.windowSize ∧
    ∀ e ∈ s.recent, e.tag ≠ tag

/-- R9, R143: the blocks of the entry that leaves the recent-reply table when a ninth is recorded. -/
def pushedOut (s : State) : List Block :=
  if Config.recentSize ≤ s.recent.length then (s.recent.head?.map (·.retained)).getD [] else []

/-- R143: the entries that stay in the recent-reply table when one more is recorded. -/
def keptEntries (s : State) : List RecentEntry :=
  if Config.recentSize ≤ s.recent.length then s.recent.tail else s.recent

/-- R139, R142, R143, R146: the state in which a new request has been taken and answered at once with `code` and
`reply`, where `s` is the state its owner's effect leaves; `retained` are the blocks of a COLLECT reply. With the code
BAD-LENGTH or BAD-KIND the request was not dispatched, and the owner field is the model's choice (log entry 20). -/
def answered (kind tag : Byte) (fields : List Byte) (code : Code) (reply : ReplyFields) (retained : List Block)
    (s : State) : State :=
  { s with
    rx := huntRx
    window := s.window ++ [⟨tag, kind, requestCheck kind tag fields, ownerOf kind, .replyQueued⟩]
    recent := keptEntries s ++
      [⟨tag, kind, requestCheck kind tag fields, ⟨replyKind kind, tag, code, reply⟩, retained, false⟩]
    free := s.free ++ (pushedOut s).map Block.release
    replyQueue := s.replyQueue ++ [⟨⟨replyKind kind, tag, code, reply⟩, false, false⟩] }

/-- R139: the state in which a new request has been taken and its reply deferred until `w`, where `s` is the state
its owner's effect leaves. -/
def deferred (kind tag : Byte) (fields : List Byte) (w : Waits) (s : State) : State :=
  { s with
    rx := huntRx
    window := s.window ++ [⟨tag, kind, requestCheck kind tag fields, ownerOf kind, .deferred w⟩] }

/-- The request a host command carries: its KIND, its TAG and the bytes that follow them. -/
def requestOf : Instr → Option (Byte × Byte × List Byte)
  | .badKindRequest kind tag fields => some (kind, tag, fields)
  | .queryPart tag fields => some (kindQueryPart, tag, fields)
  | .readStatus tag fields => some (kindReadStatus, tag, fields)
  | .restart tag fields => some (kindRestart, tag, fields)
  | .setLoop tag fields => some (kindSetLoop, tag, fields)
  | .startLoop tag fields => some (kindStartLoop, tag, fields)
  | .stopLoop tag fields => some (kindStopLoop, tag, fields)
  | .restLoop tag fields => some (kindRestLoop, tag, fields)
  | .wakeLoop tag fields => some (kindWakeLoop, tag, fields)
  | .lineReset tag fields => some (kindLineReset, tag, fields)
  | .sift tag fields => some (kindSift, tag, fields)
  | .readNode tag fields => some (kindReadNode, tag, fields)
  | .dismissNode tag fields => some (kindDismissNode, tag, fields)
  | .openPipe tag fields => some (kindOpenPipe, tag, fields)
  | .closePipe tag fields => some (kindClosePipe, tag, fields)
  | .resumePipe tag fields => some (kindResumePipe, tag, fields)
  | .readPipe tag fields => some (kindReadPipe, tag, fields)
  | .send tag fields => some (kindSend, tag, fields)
  | .collect tag fields => some (kindCollect, tag, fields)
  | .flush tag fields => some (kindFlush, tag, fields)
  | .ackNotices tag fields => some (kindAckNotices, tag, fields)
  | .powerUp _ _ => none
  | .resetPinAssert => none
  | .resetPinRelease _ _ => none
  | .hostFrameDiscard _ => none
  | .hostInterbyteTimeout _ => none
  | .hostFrameSent => none
  | .resendTimerExpiry => none
  | .roundStart => none
  | .recallCountdownExpiry => none
  | .serveDueEntry => none
  | .callSent => none
  | .replyWindowExpiry => none
  | .garbledSettled _ => none
  | .garbleLimitExpiry => none
  | .data _ _ _ => none
  | .taken _ _ _ => none
  | .hold _ _ _ => none
  | .refuse _ _ _ => none
  | .cleared _ _ _ => none
  | .present _ _ _ => none
  | .dismissed _ _ _ => none
  | .ident _ _ _ => none
  | .adopted _ _ _ => none
  | .confirmSent => none
  | .turnaroundEnd => none
  | .drainEnd => none
  | .resetDriveExpiry => none
  | .resetSettleExpiry => none
  | .restSent => none
  | .wakeSent => none
  | .wakeSettleExpiry => none
  | .lineDominant => none
  | .lineRecessive _ => none
  | .lineFault => none

/-- R170: the body lengths of the request kinds, from KIND through the last field: least and greatest. -/
def bodyLengths (kind : Byte) : Option (Nat × Nat) :=
  ([(0x01, 2, 2), (0x02, 3, 3), (0x03, 2, 2), (0x04, 9, 9), (0x05, 2, 2), (0x06, 2, 2), (0x07, 2, 2), (0x08, 2, 2),
    (0x09, 2, 2), (0x0A, 2, 2), (0x0B, 3, 3), (0x0C, 3, 3), (0x0D, 7, 7), (0x0E, 3, 3), (0x0F, 3, 3), (0x10, 3, 3),
    (0x11, 5, 68), (0x12, 6, 6), (0x13, 3, 3), (0x14, 4, 4)] : List (Nat × Nat × Nat)).lookup kind.toNat

/-- R170: the body of a request of this kind has a length the kind takes. -/
def lengthFits (kind : Byte) (fields : List Byte) : Bool :=
  match bodyLengths kind with
  | some (least, greatest) => decide (least ≤ fields.length + 2) && decide (fields.length + 2 ≤ greatest)
  | none => false

/-- The command that carries a loop-state request, and its KIND. -/
def LoopRequest.command (r : LoopRequest) (tag : Byte) : Instr :=
  match r with
  | .start => .startLoop tag []
  | .stop => .stopLoop tag []
  | .rest => .restLoop tag []
  | .wake => .wakeLoop tag []
  | .reset => .lineReset tag []

def LoopRequest.kind : LoopRequest → Byte
  | .start => 0x05#8
  | .stop => 0x06#8
  | .rest => 0x07#8
  | .wake => 0x08#8
  | .reset => 0x09#8

/-- R123: the cells of the table that answer a loop-state request at once and change nothing. START-LOOP in STOPPED
is not among them. -/
def promptCode : LoopRequest → LoopState → Option Code
  | .start, .running => some .ok
  | .start, .resting => some .loopState
  | .start, .draining => some .busy
  | .start, .resetting => some .busy
  | .start, .waking => some .busy
  | .start, .off => none
  | .start, .stopped => none
  | .stop, .off => some .ok
  | .stop, .stopped => some .ok
  | .stop, .resting => some .loopState
  | .stop, .draining => some .busy
  | .stop, .resetting => some .busy
  | .stop, .waking => some .busy
  | .stop, .running => none
  | .rest, .off => some .loopState
  | .rest, .stopped => some .loopState
  | .rest, .resting => some .ok
  | .rest, .draining => some .busy
  | .rest, .resetting => some .busy
  | .rest, .waking => some .busy
  | .rest, .running => none
  | .wake, .off => some .loopState
  | .wake, .stopped => some .loopState
  | .wake, .running => some .ok
  | .wake, .draining => some .busy
  | .wake, .resetting => some .busy
  | .wake, .waking => some .busy
  | .wake, .resting => none
  | .reset, .draining => some .busy
  | .reset, .resetting => some .busy
  | .reset, .waking => some .busy
  | .reset, .off => none
  | .reset, .stopped => none
  | .reset, .running => none
  | .reset, .resting => none

/-- R123, R171: the fields of a loop-state reply that is composed at once: a LINE-RESET reply counts 0 pipes and 0
blocks, the others carry none. -/
def promptFields : LoopRequest → ReplyFields
  | .reset => .lineReset 0 0
  | .start => .none
  | .stop => .none
  | .rest => .none
  | .wake => .none

/-- R11, R18: the DELIVERED notices asked for when these blocks of a pipe are discarded, head first. -/
def discardNotices (handle : Nat) (blocks : List Block) : List NoticeBody :=
  blocks.filterMap fun b => b.confirm.map fun tag => .delivered handle tag true

/-! ## Answers on the loop -/

/-- R64: the call `t` has been sent, the part is in its reply window, and no answer has yet been found unacceptable. -/
abbrev Hearing (t : Transaction) (s : State) : Prop :=
  s.rstHigh = true ∧ s.engine = .awaiting ∧ s.txn = some t ∧ t.heard ≠ .unacceptable

/-- R63: `t` is the transaction record of this call on the pipe `p`. -/
abbrev CallOn (p : Pipe) (call : CallKind) (t : Transaction) : Prop :=
  t.entry = .pipe p.handle ∧ t.call = call ∧ t.answerFrom = p.node ∧ t.pipe = p.number

/-- R65: the ADDR and the PIPE-SEQ of a node's answer agree with the call `t`. -/
abbrev AnswersFrom (t : Transaction) (addr pipeSeq : Byte) : Prop :=
  addr.toNat = t.answerFrom ∧ pipeNumberOf pipeSeq = t.pipe

/-- R66: the transaction in flight has ended and the engine is in its turnaround; its owners have yet to be told. -/
def txnOver (s : State) : State := { s with engine := .turnaround, txn := none, loopTx := none }

/-- R16, R17: the block of a transaction that moved no data goes back: a catch block to the free-list tail, an
outbound head to its place without its in-flight mark. -/
def blockReturned (p : Pipe) (call : CallKind) (s : State) : State :=
  match call with
  | .fetch => { s with free := s.free ++ s.catchSlot.toList.map Block.release, catchSlot := none }
  | .deliver => updPipe p.handle (fun q => { q with queue := markHead false q.queue }) s
  | .clear => s
  | .ping => s
  | .dismiss => s
  | .probe => s
  | .assign => s

/-- R7, R69: payload bytes of a DATA are written into the catch block. -/
def caught (payload : List Byte) (s : State) : State :=
  { s with catchSlot := s.catchSlot.map fun b => { b with payload := payload } }

/-- R7: an answer to a FETCH is cut off while it is being received; what it had written in the catch block is a free
value (log 18). -/
def cutOff (t : Transaction) (s : State) : State :=
  if t.call = .fetch ∧ t.heard = .activity then
    caught ((Config.bytesBeforeCut s.draws).take 64) { s with draws := s.draws + 1 }
  else s

/-! ## What shared acts leave, each said once -/

/-- R52, R116: the sift is over with this code: the unit is IDLE with its stack empty and nothing held, its entry is off
the due list, and the SIFT request is answered with the tallies. -/
def siftEnded (code : Code) (s : State) : State :=
  answerDeferred .sift code (.sift s.sift.joined s.sift.readopted s.sift.conflicts s.sift.unassigned)
    { s with
      due := s.due.filter fun e => e ≠ .sift
      sift := { s.sift with state := .idle, stack := [], held := none } }

/-- R110, R113, R114, R116: nothing is held and the unit is in PROBING, or the sift ends OK with the stack empty. -/
def siftGoesOn (s : State) : State :=
  if s.sift.stack = [] then siftEnded .ok s else { s with sift := { s.sift with state := .probing, held := none } }

/-- R114, R115: the held assignment is released with unassigned raised, and the search goes on. -/
def heldReleased (s : State) : State :=
  siftGoesOn { s with sift := { s.sift with unassigned := min (s.sift.unassigned + 1) 255 } }

/-- R101: the barred set with this address in it, listed in rising order (log 15). -/
def barredWith (a : Nat) (barred : List Nat) : List Nat := if a ∈ barred then barred else insertBy id a barred

/-- R117: an active sift is cancelled: a held assignment counts as unassigned, the address of a NEW one that has been
tried is barred, and the sift is over with CANCELLED. -/
def siftCancelled (s : State) : State :=
  if s.sift.state = .idle then s
  else match s.sift.held with
    | none => siftEnded .cancelled s
    | some hd => siftEnded .cancelled { s with
        barred := if hd.kind = .new ∧ 0 < hd.tries then barredWith hd.addr s.barred else s.barred
        sift := { s.sift with unassigned := min (s.sift.unassigned + 1) 255 } }

/-- R66, R81, R117: what follows the owners' acts at the end of a transaction: outside RUNNING, a sift that is still
active is cancelled. -/
def settled (s : State) : State := if s.loop = .running then s else siftCancelled s

/-- R100: each DISMISSING node is ENROLLED again with dismiss tries 0, and its request is answered CANCELLED, in address
order. -/
def dismissalsSettled (s : State) : State :=
  forEach (fun a => answerDeferred (.dismiss a) .cancelled (.dismissNode 0))
    ((s.nodes.filter fun n => n.state = .dismissing).map (·.addr))
    { s with nodes := s.nodes.map fun n =>
        if n.state = .dismissing then { n with state := .enrolled, dismissTries := 0 } else n }

/-- R56, R57, R100: the due list is cleared: the pipe of each dropped PIPE entry has countdown 0, and DISMISSING nodes
are settled. -/
def dueCleared (s : State) : State :=
  dismissalsSettled { s with
    due := []
    pipes := s.pipes.map fun p => if DueEntry.pipe p.handle ∈ s.due then { p with countdown := 0 } else p }

/-- R18, R37: the close of a pipe is complete, where `queue` is what its transaction has left in the pipe's queue: the
blocks are freed head first with DELIVERED for each confirmed one, the record is gone, and the CLOSE-PIPE request is
answered OK with their number. -/
def closed (handle : Nat) (queue : List Block) (s : State) : State :=
  answerDeferred (.close handle) .ok (.closePipe queue.length)
    (forEach notify (discardNotices handle queue) { s with
      pipes := s.pipes.eraseP fun q => q.handle == handle
      free := s.free ++ queue.map Block.release })

/-- R16, R34, R70: an accepted DATA at the end of its transaction, where `p` is the pipe's record and `b` the catch
block: the block joins the tail of the queue, the expected bit flips, the transfer count rises, tries are 0 and the
node's silence is 0; DATA-WAITING is asked for where the mark is clear, which is set if the notice is stored. -/
def dataAccepted (p : Pipe) (b : Block) (s : State) : State :=
  let joined := fun (mark : Bool) =>
    updPipe p.handle (fun q => { q with
        queue := q.queue ++ [b.release], seq := !q.seq, transfers := min (q.transfers + 1) 65535, tries := 0,
        waitingReported := mark })
      (updNode p.node (fun m => { m with silence := 0 }) { s with catchSlot := none })
  if p.waitingReported then joined true
  else notify (.dataWaiting p.handle (p.queue.length + 1)) (joined (decide (s.notices.length < 16)))

/-- R20, R42, R58, R100, R104, R130: entry to RESETTING: DISMISSING nodes are settled, the due list is emptied and the
recall countdown loaded, every pipe is removed in handle order with its queue discarded head first, every node record
removed and the barred set emptied, and the 20 ms of drive begin. The request in the slot keeps the counts. -/
def resetEntered (s : State) : State :=
  let u := dismissalsSettled { s with due := [] }
  forEach notify (u.pipes.flatMap fun p => discardNotices p.handle p.queue)
    { u with
      loop := .resetting, drainTarget := none, phase := .resetDrive, domTimer := false, roundTimer := false
      recallCountdown := u.params.recallInterval
      loopSlot := u.loopSlot.map fun sl =>
        { sl with pipes := u.pipes.length, blocks := (u.pipes.map fun p => p.queue.length).sum }
      pipes := [], nodes := [], barred := []
      free := u.free ++ u.catchSlot.toList.map Block.release ++ (u.pipes.flatMap (·.queue)).map Block.release
      catchSlot := none }

/-- R134 steps 2 to 6, where `s` is the state that the abandonment of the transaction leaves: the due list is cleared, a
sift cancelled, the timers and a broadcast stopped, the loop STOPPED, the request in the slot answered LINE-FAULT, the
fault counted, and LINE-FAULT created. -/
def faultStops (s : State) : State :=
  let u := answerSlot .lineFault { siftCancelled (dueCleared s) with
    roundTimer := false, phase := .quiet, loopTx := none, drainTarget := none, resume := false, domTimer := false,
    loop := .stopped }
  notify (.lineFault s.loop)
    { u with counters := { u.counters with lineFaults := min (u.counters.lineFaults + 1) 65535 } }

/-- R12: the release step of a COLLECT bearing `tag`, with its flags and release tag: its outcome, and the state it
leaves. A tag not in the table, of another kind, without blocks, or in the window, which holds the COLLECT's own, is
NOT-FOUND. -/
abbrev Releases (tag flags releaseTag : Byte) (outcome : ReleaseOutcome) (s after : State) : Prop :=
  (flags.getLsbD 0 = false ∧ outcome = .notAsked ∧ after = s) ∨
  (flags.getLsbD 0 = true ∧ outcome = .notFound ∧ after = s ∧
    (releaseTag = tag ∨ (∃ w ∈ s.window, w.tag = releaseTag) ∨
      ∀ e ∈ s.recent, e.tag = releaseTag → e.kind = 0x12 → e.retained = [])) ∨
  (flags.getLsbD 0 = true ∧ outcome = .released ∧ (∀ w ∈ s.window, w.tag ≠ releaseTag) ∧
    ∃ older e newer, s.recent = older ++ e :: newer ∧ (∀ x ∈ older, x.tag ≠ releaseTag) ∧ e.tag = releaseTag ∧
      e.kind = 0x12 ∧ e.retained ≠ [] ∧
      after = { s with
        recent := older ++ { e with retained := [], released := true } :: newer
        free := s.free ++ e.retained.map Block.release })

/-! ## Consistent parts -/

/-- R2: the indices of the blocks in every place: free list, catch slot, queues, retained sets. -/
def placedBlocks (s : State) : List Nat :=
  s.free.map (·.index) ++ s.catchSlot.toList.map (·.index) ++
    s.pipes.flatMap (fun p => p.queue.map (·.index)) ++ s.recent.flatMap (fun e => e.retained.map (·.index))

/-- R49: the entry names a pipe. -/
def DueEntry.isPipe : DueEntry → Bool
  | .pipe _ => true
  | .recall _ => false
  | .dismiss _ => false
  | .sift => false

/-- R62: the engine is between transactions. -/
abbrev EngineResting (s : State) : Prop := s.engine = .idle ∨ s.engine = .turnaround

/-- R120: rounds run or a drain is under way. -/
abbrev LoopActive (s : State) : Prop := s.loop = .running ∨ s.loop = .draining

/-- R2, R7, R62: each of the 96 blocks is in exactly one place, and one stands in the catch slot only while a FETCH on
a pipe is in flight. -/
abbrev PoolConsistent (s : State) : Prop :=
  (placedBlocks s).Perm (List.range Config.poolBlocks) ∧
  (EngineResting s → s.txn = none) ∧
  (s.catchSlot ≠ none → s.txn ≠ none) ∧
  (∀ t ∈ s.txn, s.catchSlot ≠ none → t.call = .fetch) ∧
  ∀ t ∈ s.txn, t.call = .fetch → t.entry.isPipe = true

/-- R8, R139, R143: the request window and the recent-reply table hold what they have room for, no tag twice; a tag
whose request is not yet answered is in no table entry; only a COLLECT entry retains blocks, at most 3, none once it
is released. -/
abbrev TablesConsistent (s : State) : Prop :=
  s.window.length ≤ Config.windowSize ∧ (s.window.map (·.tag)).Nodup ∧
  s.recent.length ≤ Config.recentSize ∧ (s.recent.map (·.tag)).Nodup ∧
  (∀ w ∈ s.window, w.state ≠ .replyQueued → ∀ e ∈ s.recent, e.tag ≠ w.tag) ∧
  ∀ e ∈ s.recent, e.retained.length ≤ 3 ∧ (e.retained ≠ [] → e.kind = kindCollect) ∧ (e.released = true → e.retained = [])

/-- R155: numbers that follow one another across the wrap, up to the next number. -/
def numbersRun : List Nat → Nat → Bool
  | [], _ => true
  | [n], next => nextNotice n == next
  | n :: m :: ns, next => m == nextNotice n && numbersRun (m :: ns) next

/-- R154, R155, R157: at most 16 notices, numbered 1 to 65535 without a gap up to the next number; the missed count
fits its 16 bits. -/
abbrev NoticesConsistent (s : State) : Prop :=
  s.notices.length ≤ Config.noticeSize ∧ numbersRun (s.notices.map (·.number)) s.nextNumber = true ∧
  (∀ n ∈ s.notices, 1 ≤ n.number ∧ n.number ≤ Config.max16) ∧
  1 ≤ s.nextNumber ∧ s.nextNumber ≤ Config.max16 ∧ s.missed ≤ Config.max16

/-- What the Line Controller does with the line, as the loop state allows it (R129 to R132). -/
def phaseFits : LoopState → LinePhase → Bool
  | .draining, ph => ph = .quiet ∨ ph = .restFrame
  | .resetting, ph => ph = .resetDrive ∨ ph = .resetSettle ∨ ph = .settleExtended
  | .waking, ph => ph = .wakeWait ∨ ph = .wakeFrame ∨ ph = .wakeSettle
  | .off, ph => ph = .quiet
  | .stopped, ph => ph = .quiet
  | .running, ph => ph = .quiet
  | .resting, ph => ph = .quiet

/-- R44, R49, R62, R105, R120, R133: the loop state agrees with the round timer, the drain target, the engine, the due
list, the sift and the dominant timer. -/
abbrev LoopConsistent (s : State) : Prop :=
  (s.roundTimer = true ↔ s.loop = .running) ∧
  (s.drainTarget ≠ none ↔ s.loop = .draining) ∧
  (EngineResting s ↔ s.txn = none) ∧
  (s.txn ≠ none → LoopActive s) ∧
  (s.due ≠ [] → LoopActive s) ∧
  (siftActive s = true → s.loop = .running ∨ s.loop = .draining ∧ siftCallInFlight s = true) ∧
  phaseFits s.loop s.phase = true ∧
  (s.phase = .restFrame → s.drainTarget = some .resting ∧ s.engine = .idle ∧ s.due = []) ∧
  s.domTimer = (s.lineDominant && lineWatched s) ∧
  (s.rstHigh = false → s.loop = .off)

/-- R34, R90, R105, R149, R157: the counts that stop at their greatest value: the seven counters, each pipe's transfers and
duplicates, the silence counts, the sift's tallies and the missed count. -/
abbrev CountsBounded (s : State) : Prop :=
  (s.counters.framesRejected ≤ Config.max16 ∧ s.counters.requestsDropped ≤ Config.max16 ∧
    s.counters.callsUnanswered ≤ Config.max16 ∧ s.counters.answersGarbled ≤ Config.max16 ∧
    s.counters.roundOverruns ≤ Config.max16 ∧ s.counters.fetchStarvations ≤ Config.max16 ∧
    s.counters.lineFaults ≤ Config.max16) ∧
  (∀ p ∈ s.pipes, p.transfers ≤ Config.max16 ∧ p.duplicates ≤ Config.max16) ∧
  (∀ n ∈ s.nodes, n.silence ≤ Config.maxSilence) ∧
  s.sift.joined ≤ Config.max8 ∧ s.sift.readopted ≤ Config.max8 ∧ s.sift.conflicts ≤ Config.max8 ∧
  s.sift.unassigned ≤ Config.max8 ∧ s.missed ≤ Config.max16

/-- R22, R23: the pipe records in handle order, each handle once, no node and pipe number twice, the fixed fields in
their ranges. -/
abbrev PipesConsistent (s : State) : Prop :=
  (s.pipes.map (·.handle)).Pairwise (· < ·) ∧ (s.pipes.map fun p => (p.node, p.number)).Nodup ∧
  ∀ p ∈ s.pipes, p.handle < Config.maxPipes ∧ (1 ≤ p.node ∧ p.node ≤ Config.maxNodes) ∧ p.number ≤ 3 ∧ (1 ≤ p.period ∧ p.period ≤ 255) ∧
    1 ≤ p.quota ∧ p.quota ≤ 32

/-- R87, R88, R101, R111: the node records in address order, each address and each identity once; no barred address is
occupied; the address and the identity held for a new node are in no record, and the address is not barred. -/
abbrev NodesConsistent (s : State) : Prop :=
  (s.nodes.map (·.addr)).Pairwise (· < ·) ∧ (∀ n ∈ s.nodes, 1 ≤ n.addr ∧ n.addr ≤ Config.maxNodes) ∧
  (s.nodes.map (·.identity)).Nodup ∧ (∀ n ∈ s.nodes, n.addr ∉ s.barred) ∧
  ∀ hd ∈ s.sift.held, hd.kind = .new →
    (1 ≤ hd.addr ∧ hd.addr ≤ Config.maxNodes) ∧ hd.addr ∉ s.barred ∧
      ∀ n ∈ s.nodes, n.addr ≠ hd.addr ∧ n.identity ≠ hd.identity

/-- All of the above. -/
abbrev PartConsistent (s : State) : Prop :=
  PoolConsistent s ∧ TablesConsistent s ∧ NoticesConsistent s ∧ s.due.Nodup ∧ LoopConsistent s ∧ CountsBounded s ∧
    PipesConsistent s ∧ NodesConsistent s

end Sys2Proof.Machine
end

