-- ==== Sys2Proof/Certificates/Slice0/Obligations.lean ====
section
/-! DEFINITION. The statements about the part that are to be proved. -/

open Sys2Proof Sys2Proof.Machine

/-! ## The queue of commands, power and reset -/

/-- A step takes the command at the front of the queue and runs it with the queue's rest; with no command waiting the
part idles (the model's choice, log 1). -/
def Obligations.StepRunsTheFrontCommand : Prop :=
  (∀ (c : Instr) (rest : List Instr) (s : State), s.pending = c :: rest → step s = exec c { s with pending := rest }) ∧
  ∀ s : State, s.pending = [] → step s = .next s

/-- R3, R19, R22, R59, R80, R104, R105, R120, R151, R152, R165: the part that has left its power-up reset. The straps
at 00 and the recessive line are the model's choice (log 2). -/
def Obligations.ResetLeavesEveryBlockAtItsStart : Prop :=
  State.reset.free.map (·.index) = List.range 96 ∧
  (∀ b ∈ State.reset.free, b.inFlight = false ∧ b.confirm = none) ∧
  State.reset.catchSlot = none ∧ State.reset.pipes = [] ∧ State.reset.nodes = [] ∧ State.reset.barred = [] ∧
  State.reset.roundTimer = false ∧ State.reset.recallCountdown = 64 ∧ State.reset.due = [] ∧
  State.reset.engine = .idle ∧ State.reset.txn = none ∧ State.reset.loopTx = none ∧
  State.reset.sift = ⟨.idle, [], none, 0, 0, 0, 0⟩ ∧
  State.reset.loop = .off ∧ State.reset.drainTarget = none ∧ State.reset.resume = false ∧
  State.reset.params = ⟨10, 200, 3, 6, 64, false⟩ ∧ State.reset.domTimer = false ∧
  State.reset.window = [] ∧ State.reset.refusal = none ∧ State.reset.recent = [] ∧ State.reset.loopSlot = none ∧
  State.reset.rx.state = .hunt ∧ State.reset.replyQueue = [] ∧ State.reset.counters = ⟨0, 0, 0, 0, 0, 0, 0⟩ ∧
  State.reset.notices.map (fun n => (n.number, n.body)) = [(1, .ready .power)] ∧ State.reset.nextNumber = 2 ∧
  State.reset.missed = 0 ∧ State.reset.resendTimer = false ∧
  State.reset.tx.map (·.bytes) = some (hostFrame [0x41, 0x01, 0x00, 0x00, 0x01])

/-- R136, R152: power brings the part to its reset state with the straps read and cause POWER, or, with RSTn low, holds
it there with the straps read and the frame not yet begun. RSTn low holds every block in its power-up state with HTX
idle; its release reads the straps and sends READY with cause PIN, or POWER where the part had not left the reset of
power-up. That a release with RSTn already high has no effect is the model's choice (log 14). -/
def Obligations.PowerAndTheResetPinStartThePart : Prop :=
  (∀ (rate1 rate0 : Bool) (s : State),
      (s.rstHigh = true → exec (.powerUp rate1 rate0) s = .next { State.reset with
        pending := s.pending, draws := s.draws, rate1 := rate1, rate0 := rate0, lineDominant := s.lineDominant,
        hostRate := match rate1, rate0 with
          | false, false => .r115200
          | false, true => .r230400
          | true, false => .r460800
          | true, true => .r921600 }) ∧
      (s.rstHigh = false → exec (.powerUp rate1 rate0) s = .next { State.reset with
        pending := s.pending, draws := s.draws, rate1 := rate1, rate0 := rate0, lineDominant := s.lineDominant,
        hostRate := rateOf rate1 rate0, rstHigh := false, cold := true, tx := none, notices := [], nextNumber := 1 })) ∧
  (∀ (rate1 rate0 : Bool) (s : State),
      exec .resetPinAssert s = .next { State.reset with
        pending := s.pending, draws := s.draws, rate1 := s.rate1, rate0 := s.rate0, lineDominant := s.lineDominant,
        hostRate := s.hostRate, rstHigh := false, cold := s.cold, tx := none, notices := [], nextNumber := 1 } ∧
      (s.rstHigh = false → exec (.resetPinRelease rate1 rate0) s = .next { State.reset with
        pending := s.pending, draws := s.draws, rate1 := rate1, rate0 := rate0, lineDominant := s.lineDominant,
        hostRate := rateOf rate1 rate0,
        notices := [⟨1, .ready (if s.cold then .power else .pin), false, false⟩],
        tx := some ⟨.notice 1, hostFrame [0x41, 0x01, 0x00, 0x00, if s.cold then 0x01 else 0x02]⟩ }) ∧
      (s.rstHigh = true → exec (.resetPinRelease rate1 rate0) s = .next s))

/-- R152: while RSTn is low nothing but power, the pin and the level of the line itself acts on the part. -/
def Obligations.HeldInResetNothingActs : Prop :=
  ∀ (c : Instr) (s : State), s.rstHigh = false →
    (exec .lineDominant s = .next { s with lineDominant := true }) ∧
    (∀ lasted, exec (.lineRecessive lasted) s = .next { s with lineDominant := false }) ∧
    ((∀ r1 r0, c ≠ .powerUp r1 r0) → c ≠ .resetPinAssert → (∀ r1 r0, c ≠ .resetPinRelease r1 r0) →
      c ≠ .lineDominant → (∀ lasted, c ≠ .lineRecessive lasted) → exec c s = .next s)

/-! ## The frame receiver -/

/-- R137, R138: from HUNT, a frame with a LEN outside 2 to 224, with a wrong check, or cut off by 5 ms without a byte, and
with no SYNC after its first byte, is discarded and counted, and nothing else changes; bytes without a SYNC are not
counted. A discarded frame's bytes are taken through the receiver again, so that a good frame behind a stray SYNC is
received: the stray SYNC costs one count and no more. -/
def Obligations.BadFramesAreDiscardedCountedAndRescanned : Prop :=
  (∀ (body tail bytes : List Byte) (len : Byte) (s : State), Listening s →
      (Config.sync ∉ bytes → exec (.hostFrameDiscard bytes) s = .next (kickTx s)) ∧
      (len ≠ Config.sync → ¬(2 ≤ len.toNat ∧ len.toNat ≤ 224) →
        exec (.hostFrameDiscard [Config.sync, len]) s = .next (kickTx { s with
          rx := ⟨.hunt, [], false⟩
          counters := { s.counters with framesRejected := min (s.counters.framesRejected + 1) 65535 } })) ∧
      (2 ≤ body.length → body.length ≤ 224 → tail.length = 2 →
        tail ≠ bytesOfCheck (crcOf (byteOf body.length :: body)) → Config.sync ∉ body ++ tail →
        exec (.hostFrameDiscard (Config.sync :: byteOf body.length :: body ++ tail)) s = .next (kickTx { s with
          rx := ⟨.hunt, [], false⟩
          counters := { s.counters with framesRejected := min (s.counters.framesRejected + 1) 65535 } }))) ∧
  (∀ (kind tag : Byte) (fields : List Byte) (s : State), Listening s → fieldsFit fields = true →
      exec (.hostFrameDiscard (Config.sync :: requestFrame kind tag fields)) s =
        exec (.hostFrameDiscard (requestFrame kind tag fields))
          { s with counters := { s.counters with framesRejected := min (s.counters.framesRejected + 1) 65535 } }) ∧
  (∀ (bytes : List Byte) (s : State), Listening s → Config.sync ∉ bytes →
      exec (.hostInterbyteTimeout bytes) s = .next (kickTx s) ∧
      (bytes.length < (bytes.headD 0).toNat + 3 →
          (bytes = [] ∨ 2 ≤ (bytes.headD 0).toNat ∧ (bytes.headD 0).toNat ≤ 224) →
        exec (.hostInterbyteTimeout (Config.sync :: bytes)) s = .next (kickTx { s with
          rx := ⟨.hunt, [], false⟩
          counters := { s.counters with framesRejected := min (s.counters.framesRejected + 1) 65535 } })))

/-! ## Admission and the Request Handler's own answers -/

/-- R140 cases 1, 3 and 4, R141, R150: from the admission of a RESTART until it takes effect, a good frame is discarded
without reply or count. A request whose tag is in the window is refused TAG-IN-USE, one that finds the window full
WINDOW-FULL, through the refusal slot; with the slot occupied it is dropped and counted. -/
def Obligations.UnadmittedRequestsAreDiscardedOrRefused : Prop :=
  (∀ (c : Instr) (kind tag : Byte) (fields : List Byte) (s : State), requestOf c = some (kind, tag, fields) →
      fieldsFit fields = true → Listening s → s.restartPending = true →
      exec c s = .next (kickTx { s with rx := huntRx })) ∧
  (∀ (c : Instr) (kind tag : Byte) (fields : List Byte) (s : State), requestOf c = some (kind, tag, fields) →
      fieldsFit fields = true → Listening s → s.restartPending = false → ¬(kind = kindRestart ∧ fields = []) →
      ((∃ w ∈ s.window, w.tag = tag) ∨ 4 ≤ s.window.length) →
      (s.refusal = none → exec c s = .next (kickTx { s with
        rx := huntRx
        refusal := some ⟨if 1 ≤ kind.toNat ∧ kind.toNat ≤ 0x14 then kind + 0x80 else 0xFF, tag,
          if ∃ w ∈ s.window, w.tag = tag then .tagInUse else .windowFull, .none⟩ })) ∧
      (s.refusal ≠ none → exec c s = .next (kickTx { s with
        rx := huntRx
        counters := { s.counters with requestsDropped := min (s.counters.requestsDropped + 1) 65535 } })))

/-- R140 case 5, R144: a repeat is answered from the record, with the repeat flag, and no owner's state changes; a
released COLLECT is answered RELEASED with count 0. The owner field of the repeat's window entry, which is dispatched to
no block, is the model's choice (DESIGN CHOICE, log entry 20). -/
def Obligations.RepeatIsAnsweredFromTheRecord : Prop :=
  ∀ (c : Instr) (kind tag : Byte) (fields : List Byte) (older newer : List RecentEntry) (e : RecentEntry) (s : State),
    requestOf c = some (kind, tag, fields) → fieldsFit fields = true → Listening s → s.restartPending = false →
    ¬(kind = kindRestart ∧ fields = []) → (∀ w ∈ s.window, w.tag ≠ tag) → s.window.length < 4 →
    s.recent = older ++ e :: newer → (∀ x ∈ older, x.tag ≠ tag) → e.tag = tag →
    e.crc = requestCheck kind tag fields →
    (e.released = false → exec c s = .next (kickTx { s with
      rx := huntRx
      recent := older ++ newer ++ [e]
      window := s.window ++ [⟨tag, kind, e.crc, ownerOf kind, .replyQueued⟩]
      replyQueue := s.replyQueue ++ [⟨e.reply, true, false⟩] })) ∧
    ∀ handle outcome count remaining, e.released = true → e.reply.fields = .collect handle outcome count remaining →
      exec c s = .next (kickTx { s with
        rx := huntRx
        recent := older ++ newer ++ [e]
        window := s.window ++ [⟨tag, kind, e.crc, ownerOf kind, .replyQueued⟩]
        replyQueue := s.replyQueue ++
          [⟨⟨e.reply.kind, e.reply.tag, .released, .collect handle outcome 0 remaining⟩, true, false⟩] })

/-- R9, R140 case 6, R145: a request that reuses a recorded tag with another CRC first removes the entry and frees its
retained set in reply order, and then goes on as a new request. -/
def Obligations.TagReuseForgetsTheEntry : Prop :=
  ∀ (c : Instr) (kind tag : Byte) (fields : List Byte) (older newer : List RecentEntry) (e : RecentEntry) (s : State),
    requestOf c = some (kind, tag, fields) → fieldsFit fields = true → Listening s → s.restartPending = false →
    ¬(kind = kindRestart ∧ fields = []) → (∀ w ∈ s.window, w.tag ≠ tag) → s.window.length < 4 →
    s.recent = older ++ e :: newer → (∀ x ∈ older ++ newer, x.tag ≠ tag) → e.tag = tag →
    e.crc ≠ requestCheck kind tag fields →
    exec c s = exec c { s with recent := older ++ newer, free := s.free ++ e.retained.map Block.release }

/-- R142, R170: a new request of a known kind whose body length is not its kind's is answered BAD-LENGTH; one whose
KIND lies outside 01h to 14h is answered BAD-KIND with reply KIND FFh. Neither changes an owner's state. The owner field
of their window entries, which are dispatched to no block, is the model's choice (DESIGN CHOICE, log entry 20). -/
def Obligations.BadLengthAndBadKindAreAnswered : Prop :=
  ∀ (c : Instr) (kind tag : Byte) (fields : List Byte) (s : State), requestOf c = some (kind, tag, fields) →
    fieldsFit fields = true → Accepts tag s →
    (kindKnown kind = true → lengthFits kind fields = false →
      exec c s = .next (kickTx (answered kind tag fields .badLength .none [] s))) ∧
    (kindKnown kind = false → exec c s = .next (kickTx (answered kind tag fields .badKind .none [] s))) ∧
    (kindKnown kind = false → replyKind kind = 0xFF)

/-- R21, R147, R148, R149: QUERY-PART reports the part; READ-STATUS reports the loop state, the sift, the counts of the
tables and lists as they stand, and the seven counters, which bit 0 of its flags then clears. That with a full
recent-reply table the free and retained counts are those before the recording of this reply pushes an entry out is
the model's reading (log 13). -/
def Obligations.QueryPartAndReadStatusReport : Prop :=
  ∀ (tag flags : Byte) (s : State), Accepts tag s →
    exec (.queryPart tag []) s = .next (kickTx (answered 0x01 tag [] .ok .queryPart [] s)) ∧
    encodeFields .queryPart = [0xB0, 0x30, 0x01, 96, 64, 48, 30, 4, 16] ∧
    exec (.readStatus tag [flags]) s = .next (kickTx (answered 0x02 tag [flags] .ok
      (.readStatus
        { loop := s.loop, siftActive := decide (s.sift.state ≠ .idle), freeCount := s.free.length,
          retainedCount := (s.recent.map fun e => e.retained.length).sum, nodeCount := s.nodes.length,
          pipeCount := s.pipes.length, dueCount := s.due.length, counters := s.counters }) []
      (if flags.getLsbD 0 then { s with counters := ⟨0, 0, 0, 0, 0, 0, 0⟩ } else s)))

/-- R150, R151: RESTART is admitted whatever the window, the refusal slot and the table hold, and its reply is not
recorded; when that reply's frame has been sent, every block takes its power-up state, the host rate is kept and READY
with cause RESTART is the first frame. -/
def Obligations.RestartIsAdmittedAndTakesEffect : Prop :=
  (∀ (tag : Byte) (s : State), Listening s → s.restartPending = false →
    exec (.restart tag []) s = .next (kickTx { s with
      rx := huntRx, restartPending := true
      replyQueue := s.replyQueue ++ [⟨⟨0x83, tag, .ok, .none⟩, false, true⟩] })) ∧
  ∀ (q : QueuedReply) (later : List QueuedReply) (bytes : List Byte) (s : State), s.rstHigh = true →
    s.tx = some ⟨.reply, bytes⟩ → s.replyQueue = q :: later → q.restart = true →
    exec .hostFrameSent s = .next { State.reset with
      pending := s.pending, draws := s.draws, cold := s.cold, rate1 := s.rate1, rate0 := s.rate0, hostRate := s.hostRate,
      lineDominant := s.lineDominant, notices := [⟨1, .ready .restart, false, false⟩],
      tx := some ⟨.notice 1, hostFrame [0x41, 0x01, 0x00, 0x00, 0x03]⟩ }

/-! ## Line Controller requests -/

/-- R48, R122: SET-LOOP is refused with LOOP-STATE unless the loop is OFF or STOPPED, and with BAD-FIELD if a value
lies outside its range; else it takes all six values together and loads the recall countdown. -/
def Obligations.SetLoopReplacesTheParameters : Prop :=
  ∀ (tag period wlo whi tries loss interval auto : Byte) (s : State), Accepts tag s →
    let fields := [period, wlo, whi, tries, loss, interval, auto]
    let window := wlo.toNat + 256 * whi.toNat
    let inRange := (2 ≤ period.toNat ∧ period.toNat ≤ 100) ∧ (50 ≤ window ∧ window ≤ 1000 ∧ window % 10 = 0) ∧
      (1 ≤ tries.toNat ∧ tries.toNat ≤ 7) ∧ (2 ≤ loss.toNat ∧ loss.toNat ≤ 32) ∧ 16 ≤ interval.toNat ∧ auto.toNat ≤ 1
    (s.loop ≠ .off → s.loop ≠ .stopped →
      exec (.setLoop tag fields) s = .next (kickTx (answered 0x04 tag fields .loopState .none [] s))) ∧
    (s.loop = .off ∨ s.loop = .stopped → ¬inRange →
      exec (.setLoop tag fields) s = .next (kickTx (answered 0x04 tag fields .badField .none [] s))) ∧
    (s.loop = .off ∨ s.loop = .stopped → inRange →
      exec (.setLoop tag fields) s = .next (kickTx (answered 0x04 tag fields .ok .none []
        { s with
          params := ⟨period.toNat, window, tries.toNat, loss.toNat, interval.toNat, decide (auto.toNat = 1)⟩
          recallCountdown := interval.toNat })))

/-- R123, R124: the loop-state requests that the table of R123 answers at once are answered so and change nothing;
START-LOOP in STOPPED is answered LINE-FAULT under a dominant level, and else enters RUNNING with a round start. -/
def Obligations.LoopStateRequestsAnsweredAtOnce : Prop :=
  ∀ (tag : Byte) (s : State), Accepts tag s →
    (∀ r code, promptCode r s.loop = some code →
      exec (r.command tag) s = .next (kickTx (answered r.kind tag [] code (promptFields r) [] s))) ∧
    (s.loop = .stopped → s.lineDominant = true →
      exec (.startLoop tag []) s = .next (kickTx (answered 0x05 tag [] .lineFault .none [] s))) ∧
    (s.loop = .stopped → s.lineDominant = false →
      exec (.startLoop tag []) s = .next (kickTx (answered 0x05 tag [] .ok .none []
        (roundStep { s with loop := .running, roundTimer := true }))))

/-- R20, R42, R58, R104, R124, R128, R130: START-LOOP in OFF, and LINE-RESET in OFF, STOPPED or RESTING, enter RESETTING
with the request deferred in the loop-control slot: the due list is emptied, the recall countdown loaded, every pipe
removed in handle order with its queue discarded head first, every node record removed, the barred set emptied, and
the line driven. Stated where no node is DISMISSING and the catch slot is empty. -/
def Obligations.LineResetEmptiesTheTables : Prop :=
  ∀ (tag : Byte) (r : LoopRequest) (s : State), Accepts tag s →
    (r = .start ∧ s.loop = .off ∨ r = .reset ∧ (s.loop = .off ∨ s.loop = .stopped ∨ s.loop = .resting)) →
    (∀ n ∈ s.nodes, n.state ≠ .dismissing) → s.catchSlot = none →
    exec (r.command tag) s = .next (kickTx
      (forEach notify (s.pipes.flatMap fun p => discardNotices p.handle p.queue)
        { deferred r.kind tag [] .loopControl s with
          resume := decide (r = .start), loop := .resetting, drainTarget := none, phase := .resetDrive,
          domTimer := false, roundTimer := false, due := [], recallCountdown := s.params.recallInterval,
          loopSlot := some ⟨r, s.pipes.length, (s.pipes.map fun p => p.queue.length).sum⟩,
          pipes := [], nodes := [], barred := [],
          free := s.free ++ (s.pipes.flatMap (·.queue)).map Block.release }))

/-- R44, R81, R117, R125, R126, R128, R129: STOP-LOOP, REST-LOOP and LINE-RESET in RUNNING with a transaction in
flight enter the slot and DRAINING: the rounds end, the transaction goes on, an active sift is cancelled unless the
call in flight is its own, and nothing else changes. -/
def Obligations.DrainWaitsForTheTransaction : Prop :=
  ∀ (tag : Byte) (r : LoopRequest) (t : Transaction) (s : State), Accepts tag s → s.loop = .running →
    s.txn = some t → (r = .stop ∨ r = .rest ∨ r = .reset) →
    let draining := { deferred r.kind tag [] .loopControl s with
      loopSlot := some ⟨r, 0, 0⟩, loop := .draining, roundTimer := false,
      resume := if r = .reset then true else s.resume,
      drainTarget := some (if r = .stop then .stopped else if r = .rest then .resting else .resetting) }
    exec (r.command tag) s = .next (kickTx (if t.entry = .sift then draining else siftCancelled draining))

/-- R56, R117, R126, R127, R131, R132: REST-LOOP in RUNNING with nothing in flight and the turnaround over sends the REST
broadcast at once: the rounds end, an active sift is cancelled, and as the broadcast begins the due list is cleared,
each pipe whose entry is dropped has countdown 0, and DISMISSING nodes are settled (stated where no two pipes bear one
handle and no two nodes one address). At its end the loop is RESTING and the request answered OK. WAKE-LOOP in RESTING
enters WAKING, sending the WAKE broadcast once the line is recessive; the frame's end starts the wake settle, and the
settle's end brings RUNNING with a round start and answers the request OK. A dropped entry's pipe takes countdown 0
by R46 and R56, where R22 and R43 change no record: log 19's reading (DEDUCED from R23). -/
def Obligations.RestAndWakeBroadcastsChangeTheLoop : Prop :=
  ((∀ (tag : Byte) (s : State), Accepts tag s → s.loop = .running → s.txn = none → s.engine = .idle →
      s.phase = .quiet → (s.pipes.map (·.handle)).Nodup → (s.nodes.map (·.addr)).Nodup →
      exec (.restLoop tag []) s = .next (kickTx
        { dueCleared (siftCancelled { deferred 0x07 tag [] .loopControl s with
            loopSlot := some ⟨.rest, 0, 0⟩, loop := .draining, drainTarget := some .resting, roundTimer := false }) with
          phase := .restFrame, loopTx := some ⟨0x18, 31, 0x00, []⟩ })) ∧
    (∀ (tag : Byte) (s : State), Accepts tag s → s.loop = .running → s.txn = none → s.engine = .idle →
      s.phase = .quiet → (s.pipes.map (·.handle)).Nodup → s.sift.state = .idle →
      (∀ n ∈ s.nodes, n.state ≠ .dismissing) →
      exec (.restLoop tag []) s = .next (kickTx { deferred 0x07 tag [] .loopControl s with
        loopSlot := some ⟨.rest, 0, 0⟩, loop := .draining, drainTarget := some .resting, roundTimer := false,
        phase := .restFrame, loopTx := some ⟨0x18, 31, 0x00, []⟩, due := [],
        pipes := s.pipes.map fun p => if DueEntry.pipe p.handle ∈ s.due then { p with countdown := 0 } else p })) ∧
    ∀ s : State, s.rstHigh = true → s.phase = .restFrame →
      exec .restSent s = .next (kickTx (answerSlot .ok { s with
        loop := .resting, phase := .quiet, drainTarget := none, loopTx := none, domTimer := s.lineDominant }))) ∧
  ((∀ (tag : Byte) (s : State), Accepts tag s → s.loop = .resting → s.lineDominant = false →
      exec (.wakeLoop tag []) s = .next (kickTx { deferred 0x08 tag [] .loopControl s with
        loopSlot := some ⟨.wake, 0, 0⟩, loop := .waking, phase := .wakeFrame, loopTx := some ⟨0x19, 31, 0x00, []⟩ })) ∧
    (∀ (tag : Byte) (s : State), Accepts tag s → s.loop = .resting → s.lineDominant = true →
      exec (.wakeLoop tag []) s = .next (kickTx { deferred 0x08 tag [] .loopControl s with
        loopSlot := some ⟨.wake, 0, 0⟩, loop := .waking, phase := .wakeWait })) ∧
    (∀ s : State, s.rstHigh = true → s.phase = .wakeFrame →
      exec .wakeSent s = .next (kickTx { s with phase := .wakeSettle, loopTx := none })) ∧
    ∀ s : State, s.rstHigh = true → s.phase = .wakeSettle →
      exec .wakeSettleExpiry s = .next (kickTx (answerSlot .ok
        (roundStep { s with phase := .quiet, loop := .running, roundTimer := true }))))

/-! ## Sift, node and pipe requests -/

/-- R106, R107: SIFT is refused with LOOP-STATE outside RUNNING and BUSY while a sift is active; else the unit enters
PROBING with the prefix of length 0 and tallies of 0, and the reply is deferred. -/
def Obligations.SiftRequestStartsTheSearch : Prop :=
  ∀ (tag : Byte) (s : State), Accepts tag s →
    (s.loop ≠ .running →
      exec (.sift tag []) s = .next (kickTx (answered 0x0A tag [] .loopState (.sift 0 0 0 0) [] s))) ∧
    (s.loop = .running → s.sift.state ≠ .idle →
      exec (.sift tag []) s = .next (kickTx (answered 0x0A tag [] .busy (.sift 0 0 0 0) [] s))) ∧
    (s.loop = .running → s.sift.state = .idle →
      exec (.sift tag []) s = .next (kickTx (deferred 0x0A tag [] .sift
        { s with sift := ⟨.probing, [⟨0, 0⟩], none, 0, 0, 0, 0⟩ })))

/-- R38, R102: READ-NODE and READ-PIPE report the record as it stands, a pipe's with the length of its queue, and
change nothing; outside their ranges and without a record they are refused, every field of the reply 0. -/
def Obligations.ReadRequestsReportTheRecord : Prop :=
  (encodeFields (.readNode none 0 0 []) = List.replicate 11 0 ∧ encodeFields (.readPipe none) = List.replicate 17 0) ∧
  ∀ (tag addr handle : Byte) (s : State), Accepts tag s →
    (addr.toNat < 1 ∨ 30 < addr.toNat →
      exec (.readNode tag [addr]) s = .next (kickTx (answered 0x0B tag [addr] .badField (.readNode none 0 0 []) [] s))) ∧
    (1 ≤ addr.toNat → addr.toNat ≤ 30 → findNode addr.toNat s = none →
      exec (.readNode tag [addr]) s = .next (kickTx (answered 0x0B tag [addr] .noNode (.readNode none 0 0 []) [] s))) ∧
    (∀ n, 1 ≤ addr.toNat → addr.toNat ≤ 30 → findNode addr.toNat s = some n →
      exec (.readNode tag [addr]) s = .next (kickTx (answered 0x0B tag [addr] .ok
        (.readNode (some n.state) n.identity n.silence ((s.pipes.filter fun p => p.node == addr.toNat).map (·.handle)))
        [] s))) ∧
    (47 < handle.toNat →
      exec (.readPipe tag [handle]) s = .next (kickTx (answered 0x10 tag [handle] .badField (.readPipe none) [] s))) ∧
    (handle.toNat ≤ 47 → findPipe handle.toNat s = none →
      exec (.readPipe tag [handle]) s = .next (kickTx (answered 0x10 tag [handle] .noPipe (.readPipe none) [] s))) ∧
    ∀ p, handle.toNat ≤ 47 → findPipe handle.toNat s = some p →
      exec (.readPipe tag [handle]) s = .next (kickTx (answered 0x10 tag [handle] .ok
        (.readPipe (some ⟨p.handle, p.node, p.number, p.dir, p.period, p.quota, p.state, p.countdown, p.seq, p.tries,
          p.clearNeeded, p.waitingReported, p.transfers, p.duplicates, p.queue.length⟩)) [] s))

/-- R41, R96, R97: the checks of DISMISS-NODE in order. An ENROLLED node in RUNNING becomes DISMISSING with dismiss tries
0, its pipes' entries leave the due list, its DISMISS entry joins the tail, and the reply is deferred. A LOST node is
removed at once in every loop state: its RECALL entry, its pipes in handle order with their queues discarded, and its
record go, and its address is barred. The removal is stated where no two pipes bear one handle and the barred set does
not yet hold the address. -/
def Obligations.DismissNodeChecksDefersOrRemoves : Prop :=
  (∀ (tag addr : Byte) (s : State), Accepts tag s →
      let refused := fun (code : Code) =>
        Host.Outcome.next (kickTx (answered 0x0C tag [addr] code (.dismissNode 0) [] s))
      (addr.toNat < 1 ∨ 30 < addr.toNat → exec (.dismissNode tag [addr]) s = refused .badField) ∧
      (1 ≤ addr.toNat → addr.toNat ≤ 30 → findNode addr.toNat s = none →
        exec (.dismissNode tag [addr]) s = refused .noNode) ∧
      ∀ n, 1 ≤ addr.toNat → addr.toNat ≤ 30 → findNode addr.toNat s = some n →
        (n.state = .dismissing → exec (.dismissNode tag [addr]) s = refused .busy) ∧
        (n.state = .enrolled → s.loop ≠ .running → exec (.dismissNode tag [addr]) s = refused .loopState) ∧
        (n.state = .enrolled → s.loop = .running → DueEntry.dismiss addr.toNat ∉ s.due →
          exec (.dismissNode tag [addr]) s = .next (kickTx (deferred 0x0C tag [addr] (.dismiss addr.toNat)
            (updNode addr.toNat (fun m => { m with state := .dismissing, dismissTries := 0 })
              { s with due := (s.due.filter fun e => e ∉ ((s.pipes.filter fun p => p.node == addr.toNat).map fun p =>
                  DueEntry.pipe p.handle)) ++ [.dismiss addr.toNat] }))))) ∧
  (∀ (tag addr : Byte) (n : Node) (s : State), Accepts tag s → (s.pipes.map (·.handle)).Nodup →
      1 ≤ addr.toNat → addr.toNat ≤ 30 → findNode addr.toNat s = some n → n.state = .lost → addr.toNat ∉ s.barred →
      let gone := s.pipes.filter fun p => p.node == addr.toNat
      ∃ barred, barred.Perm (addr.toNat :: s.barred) ∧
        exec (.dismissNode tag [addr]) s = .next (kickTx (answered 0x0C tag [addr] .ok (.dismissNode gone.length) []
          (forEach notify (gone.flatMap fun p => discardNotices p.handle p.queue)
            { s with
              due := s.due.filter fun e => e ≠ .recall addr.toNat
              pipes := s.pipes.filter fun p => p.node ≠ addr.toNat
              nodes := s.nodes.eraseP fun m => m.addr == addr.toNat
              barred := barred
              free := s.free ++ (gone.flatMap (·.queue)).map Block.release }))))

/-- R22, R26: OPEN-PIPE makes its checks in order and creates a record in CLEARING at the lowest free handle; a refused
reply carries FFh. -/
def Obligations.OpenPipeTakesTheLowestFreeHandle : Prop :=
  (encodeFields (.openPipe none) = [0xFF]) ∧
  ∀ (tag node number dir period quota : Byte) (s : State), Accepts tag s →
    let fields := [node, number, dir, period, quota]
    let refused := fun (code : Code) =>
      Host.Outcome.next (kickTx (answered 0x0D tag fields code (.openPipe none) [] s))
    let inRange := (1 ≤ node.toNat ∧ node.toNat ≤ 30) ∧ number.toNat ≤ 3 ∧ dir.toNat ≤ 1 ∧ period.toNat ≠ 0 ∧
      1 ≤ quota.toNat ∧ quota.toNat ≤ 32
    let present := ∃ n ∈ findNode node.toNat s, n.state ≠ .dismissing
    let named := ∃ p ∈ s.pipes, p.node = node.toNat ∧ p.number = number.toNat
    (¬inRange → exec (.openPipe tag fields) s = refused .badField) ∧
    (inRange → ¬present → exec (.openPipe tag fields) s = refused .noNode) ∧
    (inRange → present → named → exec (.openPipe tag fields) s = refused .pipeExists) ∧
    (inRange → present → ¬named → (∀ h < 48, findPipe h s ≠ none) →
      exec (.openPipe tag fields) s = refused .tableFull) ∧
    ∀ h < 48, inRange → present → ¬named → findPipe h s = none → (∀ g < h, findPipe g s ≠ none) →
      let record : Pipe :=
        { handle := h, node := node.toNat, number := number.toNat,
          dir := if dir.toNat = 0 then .inbound else .outbound, period := period.toNat, quota := quota.toNat,
          state := .clearing, countdown := 0, seq := false, tries := 0, clearNeeded := false,
          waitingReported := false, transfers := 0, duplicates := 0, queue := [] }
      exec (.openPipe tag fields) s = .next (kickTx (answered 0x0D tag fields .ok (.openPipe (some h)) []
        { s with pipes := insertBy Pipe.handle record s.pipes }))

/-- R25, R36, R37: CLOSE-PIPE makes its checks in order; with nothing of the pipe in flight the pipe is removed at
once, its entry taken off the due list and its queue discarded head first; with its transaction in flight it becomes
CLOSING and the reply is deferred. -/
def Obligations.ClosePipeRemovesOrWaits : Prop :=
  ∀ (tag handle : Byte) (s : State), Accepts tag s →
    let refused := fun (code : Code) =>
      Host.Outcome.next (kickTx (answered 0x0E tag [handle] code (.closePipe 0) [] s))
    (47 < handle.toNat → exec (.closePipe tag [handle]) s = refused .badField) ∧
    (handle.toNat ≤ 47 → findPipe handle.toNat s = none → exec (.closePipe tag [handle]) s = refused .noPipe) ∧
    ∀ p, handle.toNat ≤ 47 → findPipe handle.toNat s = some p →
      (p.state = .closing → exec (.closePipe tag [handle]) s = refused .pipeState) ∧
      (p.state ≠ .closing → (∀ t, s.txn = some t → t.entry ≠ .pipe p.handle) →
        exec (.closePipe tag [handle]) s = .next (kickTx (answered 0x0E tag [handle] .ok (.closePipe p.queue.length) []
          (forEach notify (discardNotices p.handle p.queue)
            { s with
              due := s.due.filter fun e => e ≠ .pipe p.handle
              pipes := s.pipes.eraseP fun q => q.handle == p.handle
              free := s.free ++ p.queue.map Block.release })))) ∧
      ∀ t, p.state ≠ .closing → s.txn = some t → t.entry = .pipe p.handle →
        exec (.closePipe tag [handle]) s = .next (kickTx (deferred 0x0E tag [handle] (.close p.handle)
          (updPipe p.handle (fun q => { q with state := .closing })
            { s with due := s.due.filter fun e => e ≠ .pipe p.handle })))

/-- R35: RESUME-PIPE makes its checks in order and changes the pipe by its state; every other field is kept. The reply
carries the new state, 0 on BAD-FIELD and NO-PIPE, CLOSING on PIPE-STATE. -/
def Obligations.ResumePipeByState : Prop :=
  (encodeFields (.resumePipe none) = [0x00] ∧ encodeFields (.resumePipe (some .closing)) = [0x05]) ∧
  ∀ (tag handle : Byte) (s : State), Accepts tag s →
    (47 < handle.toNat → exec (.resumePipe tag [handle]) s =
      .next (kickTx (answered 0x0F tag [handle] .badField (.resumePipe none) [] s))) ∧
    (handle.toNat ≤ 47 → findPipe handle.toNat s = none → exec (.resumePipe tag [handle]) s =
      .next (kickTx (answered 0x0F tag [handle] .noPipe (.resumePipe none) [] s))) ∧
    ∀ p, handle.toNat ≤ 47 → findPipe handle.toNat s = some p →
      let becomes := fun (after : Pipe) =>
        Host.Outcome.next (kickTx (answered 0x0F tag [handle] .ok (.resumePipe (some after.state)) []
          (updPipe handle.toNat (fun _ => after) s)))
      (p.state = .closing → exec (.resumePipe tag [handle]) s =
        .next (kickTx (answered 0x0F tag [handle] .pipeState (.resumePipe (some .closing)) [] s))) ∧
      (p.state = .halted →
        exec (.resumePipe tag [handle]) s = becomes { p with state := .clearing, tries := 0 }) ∧
      (p.state = .faulted → p.clearNeeded = true →
        exec (.resumePipe tag [handle]) s = becomes { p with state := .clearing, clearNeeded := false, tries := 0 }) ∧
      (p.state = .faulted → p.clearNeeded = false →
        exec (.resumePipe tag [handle]) s = becomes { p with state := .active, tries := 0 }) ∧
      (p.state = .clearing ∨ p.state = .active →
        exec (.resumePipe tag [handle]) s = becomes { p with tries := 0 })

/-! ## Block Pool requests -/

/-- R4, R10, R21, R25: SEND makes its checks in order, and a SEND that passes moves the free-list head, filled with the
data and bearing the request's tag if bit 0 of the flags asks for it, to the tail of the pipe's outbound queue. The
reply carries the outbound queue length; that it is so on an IN pipe too, and so 0, is the model's reading (log 17). -/
def Obligations.SendQueuesOneBlock : Prop :=
  ∀ (tag handle flags : Byte) (data : List Byte) (s : State), Accepts tag s →
    1 ≤ data.length → data.length ≤ 64 →
    let fields := handle :: flags :: data
    let refused := fun (code : Code) (queued : Nat) =>
      Host.Outcome.next (kickTx (answered 0x11 tag fields code (.send queued) [] s))
    (47 < handle.toNat → exec (.send tag fields) s = refused .badField 0) ∧
    (handle.toNat ≤ 47 → findPipe handle.toNat s = none → exec (.send tag fields) s = refused .noPipe 0) ∧
    ∀ p, handle.toNat ≤ 47 → findPipe handle.toNat s = some p →
      (p.state = .closing →
        exec (.send tag fields) s = refused .pipeState (if p.dir = .outbound then p.queue.length else 0)) ∧
      (p.state ≠ .closing → p.dir = .inbound → exec (.send tag fields) s = refused .wrongDirection 0) ∧
      (p.state ≠ .closing → p.dir = .outbound → p.quota ≤ p.queue.length →
        exec (.send tag fields) s = refused .quota p.queue.length) ∧
      (p.state ≠ .closing → p.dir = .outbound → p.queue.length < p.quota → s.free.length ≤ 8 →
        exec (.send tag fields) s = refused .noBlock p.queue.length) ∧
      ∀ b rest, p.state ≠ .closing → p.dir = .outbound → p.queue.length < p.quota → 8 < s.free.length →
        s.free = b :: rest →
        exec (.send tag fields) s = .next (kickTx (answered 0x11 tag fields .ok (.send (p.queue.length + 1)) []
          (updPipe handle.toNat
            (fun q => { q with queue := q.queue ++
              [⟨b.index, data, false, if flags.getLsbD 0 then some tag else none⟩] })
            { s with free := rest })))

/-- R4, R8, R12, R13, R21, R25: a COLLECT asked to release frees the named entry's retained blocks first, in reply order,
and marks the entry released, whatever becomes of the rest; an entry not in the table, of another kind, without blocks,
or whose tag is in the window is NOT-FOUND. The collect part then makes its checks in order; one that passes moves up to
the maximum count of blocks from the head of the inbound queue to the reply's retained set, and a queue left empty
clears the waiting-reported mark. The remaining field carries the inbound queue length; that it is so on an OUT pipe
too, and so 0, is the model's reading (log 17). -/
def Obligations.CollectReleasesFirstAndTakesFromTheHead : Prop :=
  ∀ (tag handle max flags releaseTag : Byte) (outcome : ReleaseOutcome) (s r : State), Accepts tag s →
    Releases tag flags releaseTag outcome s r →
    let fields := [handle, max, flags, releaseTag]
    let refused := fun (code : Code) (remaining : Nat) =>
      Host.Outcome.next (kickTx (answered 0x12 tag fields code (.collect handle outcome 0 remaining) [] r))
    let inbound := fun (p : Pipe) => if p.dir = .inbound then p.queue.length else 0
    (max.toNat = 0 ∨ 3 < max.toNat → exec (.collect tag fields) s = refused .badField
      (if handle.toNat ≤ 47 then ((findPipe handle.toNat s).map inbound).getD 0 else 0)) ∧
    (1 ≤ max.toNat → max.toNat ≤ 3 →
      (47 < handle.toNat → exec (.collect tag fields) s = refused .badField 0) ∧
      (handle.toNat ≤ 47 → findPipe handle.toNat s = none → exec (.collect tag fields) s = refused .noPipe 0) ∧
      ∀ p, handle.toNat ≤ 47 → findPipe handle.toNat s = some p →
        (p.state = .closing → exec (.collect tag fields) s = refused .pipeState (inbound p)) ∧
        (p.state ≠ .closing → p.dir = .outbound → exec (.collect tag fields) s = refused .wrongDirection 0) ∧
        (p.state ≠ .closing → p.dir = .inbound →
          exec (.collect tag fields) s = .next (kickTx (answered 0x12 tag fields .ok
            (.collect handle outcome (min max.toNat p.queue.length) (p.queue.length - max.toNat))
            (p.queue.take max.toNat)
            (updPipe handle.toNat (fun q => { q with
              queue := p.queue.drop max.toNat
              waitingReported := decide (max.toNat < p.queue.length) && q.waitingReported }) r)))))

/-- R14, R25: FLUSH makes its checks in order and frees the pipe's queue in queue order, with DELIVERED for each
confirmed outbound block, but for an outbound head in flight; an IN pipe's waiting-reported mark is cleared. -/
def Obligations.FlushEmptiesTheQueue : Prop :=
  ∀ (tag handle : Byte) (s : State), Accepts tag s →
    let refused := fun (code : Code) =>
      Host.Outcome.next (kickTx (answered 0x13 tag [handle] code (.flush 0) [] s))
    (47 < handle.toNat → exec (.flush tag [handle]) s = refused .badField) ∧
    (handle.toNat ≤ 47 → findPipe handle.toNat s = none → exec (.flush tag [handle]) s = refused .noPipe) ∧
    ∀ p, handle.toNat ≤ 47 → findPipe handle.toNat s = some p →
      let emptied := fun (kept gone : List Block) (mark : Bool) =>
        Host.Outcome.next (kickTx (answered 0x13 tag [handle] .ok (.flush gone.length) []
          (forEach notify (discardNotices handle.toNat gone)
            (updPipe handle.toNat (fun q => { q with queue := kept, waitingReported := mark })
              { s with free := s.free ++ gone.map Block.release }))))
      (p.state = .closing → exec (.flush tag [handle]) s = refused .pipeState) ∧
      (p.state ≠ .closing → p.dir = .inbound → exec (.flush tag [handle]) s = emptied [] p.queue false) ∧
      (p.state ≠ .closing → p.dir = .outbound → (∀ b ∈ p.queue.head?, b.inFlight = false) →
        exec (.flush tag [handle]) s = emptied [] p.queue p.waitingReported) ∧
      ∀ b rest, p.state ≠ .closing → p.dir = .outbound → p.queue = b :: rest → b.inFlight = true →
        exec (.flush tag [handle]) s = emptied [b] rest p.waitingReported

/-! ## Notices and the transmitter -/

/-- R162, R158, R160: ACK-NOTICES removes the notice it names and every older one, restarts the resend timer and reports
the missed count, if any, with NOTICES-MISSED; a number the list does not hold is NOT-HELD and changes nothing. -/
def Obligations.AckNoticesRemovesUpToTheNumber : Prop :=
  ∀ (tag lo hi : Byte) (older newer : List Notice) (n : Notice) (s : State), Accepts tag s →
    let number := lo.toNat + 256 * hi.toNat
    ((∀ m ∈ s.notices, m.number ≠ number) → exec (.ackNotices tag [lo, hi]) s =
      .next (kickTx (answered 0x14 tag [lo, hi] .notHeld (.ackNotices 0) [] s))) ∧
    (s.notices = older ++ n :: newer → n.number = number → (∀ m ∈ older, m.number ≠ number) →
      (s.missed = 0 → exec (.ackNotices tag [lo, hi]) s =
        .next (kickTx (answered 0x14 tag [lo, hi] .ok (.ackNotices (older.length + 1)) []
          { s with notices := newer, resendTimer := true }))) ∧
      (0 < s.missed → newer.length < 16 → exec (.ackNotices tag [lo, hi]) s =
        .next (kickTx (answered 0x14 tag [lo, hi] .ok (.ackNotices (older.length + 1)) []
          { s with
            notices := newer ++ [⟨s.nextNumber, .noticesMissed s.missed, true, false⟩]
            nextNumber := if s.nextNumber = 65535 then 1 else s.nextNumber + 1
            missed := 0, resendTimer := true }))))

/-- R155, R156, R157: a notice asked for joins the tail with the next number, unsent and unflagged, where the list holds
fewer than 16; else it is missed, takes no number, and raises the missed count, which stops at 65535. -/
def Obligations.NoticeIsStoredOrMissed : Prop :=
  ∀ (body : NoticeBody) (s : State),
    (s.notices.length < 16 → notify body s =
      { s with
        notices := s.notices ++ [{ number := s.nextNumber, body := body, unsent := true, resend := false }]
        nextNumber := if s.nextNumber = 65535 then 1 else s.nextNumber + 1 }) ∧
    (16 ≤ s.notices.length → notify body s = { s with missed := min (s.missed + 1) 65535 })

/-- R8, R146, R159: an idle transmitter chooses the refusal, else the oldest reply, a COLLECT's blocks read from the
retained set, else the oldest unsent notice, whose mark it clears; with none waiting it stays idle, and a frame once
begun is sent to its end. -/
def Obligations.TransmitterChoosesInOrder : Prop :=
  ∀ s : State,
    (∀ f, s.tx = some f → kickTx s = s) ∧
    (∀ r, s.tx = none → s.refusal = some r →
      kickTx s = { s with tx := some ⟨.refusal, hostFrame (encodeReply r false [])⟩ }) ∧
    (∀ q later, s.tx = none → s.refusal = none → s.replyQueue = q :: later →
      (∀ handle outcome count remaining, q.reply.fields ≠ .collect handle outcome count remaining) →
      kickTx s = { s with tx := some ⟨.reply, hostFrame (encodeReply q.reply q.repeated [])⟩ }) ∧
    (∀ q later e handle outcome count remaining, s.tx = none → s.refusal = none → s.replyQueue = q :: later →
      q.reply.fields = .collect handle outcome count remaining → s.recent.find? (fun x => x.tag == q.reply.tag) = some e →
      kickTx s = { s with tx := some ⟨.reply, hostFrame (encodeReply q.reply q.repeated e.retained)⟩ }) ∧
    (∀ older newer n, s.tx = none → s.refusal = none → s.replyQueue = [] → s.notices = older ++ n :: newer →
      (∀ m ∈ older, m.unsent = false) → n.unsent = true →
      kickTx s = { s with
        tx := some ⟨.notice n.number, hostFrame (encodeNotice n)⟩
        notices := older ++ { n with unsent := false } :: newer }) ∧
    (s.tx = none → s.refusal = none → s.replyQueue = [] → (∀ m ∈ s.notices, m.unsent = false) → kickTx s = s)

/-- R146, R159, R160, R161: the end of a refusal's frame empties the slot, the end of a reply's frame takes the reply out
of the queue and its request out of the window, the end of a notice's frame restarts the resend timer; the transmitter
then chooses again. When the resend timer expires it stops, and every notice neither unsent nor being sent is marked
unsent and takes the resend flag. -/
def Obligations.FrameEndsAndTheResendTimer : Prop :=
  (∀ (bytes : List Byte) (number : Nat) (q : QueuedReply) (later : List QueuedReply) (s : State), s.rstHigh = true →
      (s.tx = some ⟨.refusal, bytes⟩ →
        exec .hostFrameSent s = .next (kickTx { s with tx := none, refusal := none })) ∧
      (s.tx = some ⟨.reply, bytes⟩ → s.replyQueue = q :: later → q.restart = false →
        exec .hostFrameSent s = .next (kickTx { s with
          tx := none, replyQueue := later, window := s.window.eraseP fun w => w.tag == q.reply.tag })) ∧
      (s.tx = some ⟨.notice number, bytes⟩ →
        exec .hostFrameSent s = .next (kickTx { s with tx := none, resendTimer := true }))) ∧
  (∀ s : State, s.rstHigh = true →
      (s.resendTimer = true → exec .resendTimerExpiry s = .next (kickTx { s with
        resendTimer := false
        notices := s.notices.map fun n =>
          if n.unsent = true ∨ s.tx.map (·.kind) = some (.notice n.number) then n
          else { n with unsent := true, resend := true } })) ∧
      (s.resendTimer = false → exec .resendTimerExpiry s = .next (kickTx s)))

/-! ## The Round Scheduler -/

/-- R44, R45, R46, R47, R48, R55: a round start counts an overrun where the due list is not empty, decrements every
countdown, appends the eligible pipes in handle order and reloads their countdowns, then the SIFT entry, and steps the
recall countdown, whose expiry appends a RECALL entry for each LOST node that has none and no PING in flight, in
address order. No round start and no expiry falls while the round timer stands still. That the round start at which the
recall countdown expires also comes as a command of its own, which has no effect at another countdown, is the model's
choice (log 8). Stated where no two pipes bear one handle and no two nodes one address. -/
def Obligations.RoundStartDoesItsFiveSteps : Prop :=
  (∀ (c : Instr) (s : State), c = .roundStart ∨ c = .recallCountdownExpiry ∧ s.recallCountdown ≤ 1 →
      s.rstHigh = true → s.roundTimer = true → (s.pipes.map (·.handle)).Nodup → (s.nodes.map (·.addr)).Nodup →
      let eligible := fun (p : Pipe) =>
        decide ((findNode p.node s).map (·.state) = some .enrolled) && !pipeInFlight p.handle s &&
          decide (DueEntry.pipe p.handle ∉ s.due) &&
          (decide (p.state = .clearing) ||
            decide (p.state = .active) && decide (p.countdown ≤ 1) &&
              (match p.dir with
               | .inbound => decide (p.queue.length < p.quota)
               | .outbound => !p.queue.isEmpty))
      let expires := decide (s.recallCountdown ≤ 1)
      let called := (s.nodes.filter fun n => decide (n.state = .lost) && decide (DueEntry.recall n.addr ∉ s.due) &&
        !pingInFlight n.addr s).map fun n => DueEntry.recall n.addr
      exec c s = .next (kickTx { s with
        counters := if s.due = [] then s.counters
          else { s.counters with roundOverruns := min (s.counters.roundOverruns + 1) 65535 }
        pipes := s.pipes.map fun p => { p with countdown := if eligible p then p.period else p.countdown - 1 }
        due := s.due ++ (s.pipes.filter eligible).map (fun p => DueEntry.pipe p.handle) ++
          (if s.sift.state ≠ .idle ∧ DueEntry.sift ∉ s.due then [.sift] else []) ++ (if expires then called else [])
        recallCountdown := if expires then s.params.recallInterval else s.recallCountdown - 1 })) ∧
  (∀ s : State, s.rstHigh = true →
      (s.roundTimer = false → exec .roundStart s = .next (kickTx s) ∧ exec .recallCountdownExpiry s = .next (kickTx s)) ∧
      (1 < s.recallCountdown → exec .recallCountdownExpiry s = .next (kickTx s)))

/-- R15, R17, R53, R54, R63, R173: a PIPE entry at the head is served while the line is free: CLEAR on a CLEARING pipe;
FETCH with the free-list head as catch block on an ACTIVE IN pipe, or fetch starvation with an empty free list; DELIVER
of the marked head of the queue on an ACTIVE OUT pipe, or a skip with an empty queue. That an entry whose pipe is
HALTED, FAULTED or CLOSING, which R53 says is never served, is skipped too is the model's choice (log 4). -/
def Obligations.PipeEntryIsServedByState : Prop :=
  ∀ (p : Pipe) (rest : List DueEntry) (s : State), s.rstHigh = true → s.loop = .running → s.engine = .idle →
    s.due = .pipe p.handle :: rest → findPipe p.handle s = some p →
    let calling := fun (call : CallKind) (type : Byte) (seq : Bool) (payload : List Byte) (u : State) =>
      Host.Outcome.next (kickTx { u with
        due := rest, engine := .calling
        txn := some ⟨.pipe p.handle, call, p.node, p.node, p.number, seq, payload, none, none, s.params.replyWindow,
          .nothing, none⟩
        loopTx := some ⟨type, byteOf p.node, pipeSeqByte p.number seq, payload⟩ })
    (p.state = .clearing → exec .serveDueEntry s = calling .clear 0x13 false [] s) ∧
    (∀ b blocks, p.state = .active → p.dir = .inbound → s.free = b :: blocks →
      exec .serveDueEntry s = calling .fetch 0x10 p.seq [] { s with free := blocks, catchSlot := some b }) ∧
    (p.state = .active → p.dir = .inbound → s.free = [] →
      exec .serveDueEntry s = .next (kickTx (updPipe p.handle (fun q => { q with countdown := 0 }) { s with
        due := rest
        counters := { s.counters with fetchStarvations := min (s.counters.fetchStarvations + 1) 65535 } }))) ∧
    (∀ b blocks, p.state = .active → p.dir = .outbound → p.queue = b :: blocks →
      exec .serveDueEntry s = calling .deliver 0x11 p.seq b.payload
        (updPipe p.handle (fun q => { q with queue := { b with inFlight := true } :: blocks }) s)) ∧
    (p.state = .halted ∨ p.state = .faulted ∨ p.state = .closing ∨
        p.state = .active ∧ p.dir = .outbound ∧ p.queue = [] →
      exec .serveDueEntry s = .next (kickTx { s with due := rest }))

/-- R53, R92, R98, R108, R109, R112, R115, R173: the other entries served while the line is free: PING to a LOST node,
DISMISS to a DISMISSING one, PROBE of the popped prefix in PROBING, ASSIGN of the held identity in ASSIGNING; a held
READOPT whose record is gone is released as unassigned, and the next prefix is probed or the sift ends; nothing is
served while the line is not free. -/
def Obligations.NodeAndSiftEntriesAreServed : Prop :=
  ∀ (n : Node) (p : Prefix) (stack : List Prefix) (hd : Held) (rest : List DueEntry) (s : State), s.rstHigh = true →
    let calling := fun (entry : DueEntry) (call : CallKind) (type : Byte) (addr from_ : Nat) (payload : List Byte)
        (identity : Option Ident) (probed : Option Prefix) (u : State) =>
      Host.Outcome.next (kickTx { u with
        due := rest, engine := .calling
        txn := some ⟨entry, call, addr, from_, 0, false, payload, identity, probed, s.params.replyWindow, .nothing, none⟩
        loopTx := some ⟨type, byteOf addr, 0x00, payload⟩ })
    (s.loop ≠ .running ∨ s.engine ≠ .idle → exec .serveDueEntry s = .next (kickTx s)) ∧
    (s.loop = .running → s.engine = .idle →
      (s.due = .recall n.addr :: rest → findNode n.addr s = some n → n.state = .lost →
        exec .serveDueEntry s = calling (.recall n.addr) .ping 0x14 n.addr n.addr [] (some n.identity) none s) ∧
      (s.due = .dismiss n.addr :: rest → findNode n.addr s = some n → n.state = .dismissing →
        exec .serveDueEntry s = calling (.dismiss n.addr) .dismiss 0x15 n.addr n.addr [] none none s) ∧
      (s.due = .sift :: rest → s.sift.state = .probing → s.sift.stack = p :: stack →
        exec .serveDueEntry s = calling .sift .probe 0x16 0 0 (byteOf p.len :: bytesOfIdent p.bits) none (some p)
          { s with sift := { s.sift with stack := stack } }) ∧
      (s.due = .sift :: rest → s.sift.state = .assigning → s.sift.held = some hd →
        (hd.kind = .new ∨ ∃ m ∈ s.nodes, m.addr = hd.addr ∧ m.identity = hd.identity) →
        exec .serveDueEntry s = calling .sift .assign 0x17 0 hd.addr (bytesOfIdent hd.identity ++ [byteOf hd.addr])
          (some hd.identity) none s) ∧
      (s.due = .sift :: rest → s.sift.state = .assigning → s.sift.held = some hd → hd.kind = .readopt →
        (∀ m ∈ s.nodes, m.addr = hd.addr → m.identity ≠ hd.identity) →
        (s.sift.stack = [] → exec .serveDueEntry s = .next (kickTx (heldReleased { s with due := rest }))) ∧
        (s.sift.stack = p :: stack →
          exec .serveDueEntry s = calling .sift .probe 0x16 0 0 (byteOf p.len :: bytesOfIdent p.bits) none (some p)
            { s with sift := { s.sift with
              state := .probing, held := none, stack := stack, unassigned := min (s.sift.unassigned + 1) 255 } })))

/-! ## The Loop Engine -/

/-- R62, R64: the end of the call opens the reply window; a dominant level already present counts as activity. The end
of the turnaround makes the engine IDLE. -/
def Obligations.CallEndOpensTheWindow : Prop :=
  ∀ (t : Transaction) (s : State), s.rstHigh = true →
    (s.engine = .calling → s.txn = some t →
      exec .callSent s = .next (kickTx { s with
        engine := .awaiting, loopTx := none
        txn := some { t with heard := if s.lineDominant then .activity else .nothing } })) ∧
    (s.engine = .turnaround → exec .turnaroundEnd s = .next (kickTx { s with engine := .idle }))

/-- R28, R29, R30, R37, R50, R64, R68, R78, R81, R90, R91: a call on a pipe that the node leaves unanswered to the end of
the window is NONE: it is counted, its block goes back, and the node's silence count rises. Where that brings an
ENROLLED node to the loss limit, the node is LOST, its pipes' entries leave the due list, and tries are 0; else it is a
failed try, retried at once by an ENROLLED node's pipe in RUNNING, or PIPE-FAULTED at the try limit. A CLOSING pipe takes
no try: its close is complete. Outside RUNNING an active sift is then cancelled. -/
def Obligations.UnansweredPipeCall : Prop :=
  ∀ (p : Pipe) (n : Node) (call : CallKind) (t : Transaction) (s : State), s.rstHigh = true →
    s.engine = .awaiting → s.txn = some t → t.heard = .nothing → CallOn p call t →
    (call = .fetch ∨ call = .deliver ∨ call = .clear) →
    findPipe p.handle s = some p → findNode p.node s = some n →
    let silence := min (n.silence + 1) 32
    let u := blockReturned p call { txnOver s with
      counters := { s.counters with callsUnanswered := min (s.counters.callsUnanswered + 1) 65535 } }
    let silent := updNode p.node (fun m => { m with silence := silence })
    let lost := updNode p.node (fun m => { m with silence := silence, state := .lost, dismissTries := 0 })
      { u with due := s.due.filter fun e => e ∉ (s.pipes.filter fun q => q.node == p.node).map fun q =>
          DueEntry.pipe q.handle }
    let loses := n.state = .enrolled ∧ s.params.lossLimit ≤ silence
    (p.state ≠ .closing → loses →
      exec .replyWindowExpiry s = .next (kickTx (settled (notify (.nodeLost p.node)
        (updPipe p.handle (fun q => { q with tries := 0 }) lost))))) ∧
    (p.state ≠ .closing → ¬loses → p.tries + 1 < s.params.tryLimit → DueEntry.pipe p.handle ∉ s.due →
      exec .replyWindowExpiry s = .next (kickTx (settled
        (updPipe p.handle (fun q => { q with tries := q.tries + 1 })
          (silent { u with
            due := s.due ++ if s.loop = .running ∧ n.state = .enrolled then [.pipe p.handle] else [] }))))) ∧
    (p.state ≠ .closing → ¬loses → s.params.tryLimit ≤ p.tries + 1 →
      exec .replyWindowExpiry s = .next (kickTx (settled (notify (.pipeFaulted p.handle false)
        (updPipe p.handle (fun q => { q with
            state := .faulted, tries := 0, clearNeeded := if p.state = .clearing then true else q.clearNeeded })
          (silent u)))))) ∧
    (p.state = .closing → loses →
      exec .replyWindowExpiry s = .next (kickTx (settled (closed p.handle p.queue (notify (.nodeLost p.node) lost))))) ∧
    (p.state = .closing → ¬loses →
      exec .replyWindowExpiry s = .next (kickTx (settled (closed p.handle p.queue (silent u)))))

/-- R7, R28, R30, R37, R50, R64, R65, R68, R73, R76, R77, R81: what is heard and is no acceptable answer, followed by quiet,
or 2100 µs of activity, end a pipe's call GARBLED: counted, its block back, the silence count as it was, and a failed
try; a CLOSING pipe takes no try, its close is complete. A catch block goes back with the payload bytes of a DATA that
was heard; those of an answer cut off by the limit are a free value (log 18). -/
def Obligations.GarbledPipeCall : Prop :=
  ∀ (p : Pipe) (call : CallKind) (t : Transaction) (rx : LoopRx) (c : Instr) (s heard : State), s.rstHigh = true →
    s.engine = .awaiting → s.txn = some t → CallOn p call t →
    (call = .fetch ∨ call = .deliver ∨ call = .clear) → findPipe p.handle s = some p →
    ((c = .garbledSettled rx ∨ c = .garbleLimitExpiry) ∧ t.heard = .unacceptable ∧ heard = s ∨
      c = .garbledSettled rx ∧ t.heard ≠ .unacceptable ∧
        (t.heard = .activity ∨ rx.bytes ≠ [] ∨ rx.stopFault ≠ none) ∧ (readLoop rx).bind (classify t) = none ∧
        heard = (if call = .fetch ∧ storedPayload rx.bytes ≠ [] then caught (storedPayload rx.bytes) s else s) ∨
      c = .garbleLimitExpiry ∧ t.heard = .activity ∧
        heard = cutOff t s) →
    let u := blockReturned p call { txnOver heard with
      counters := { s.counters with answersGarbled := min (s.counters.answersGarbled + 1) 65535 } }
    (p.state ≠ .closing → p.tries + 1 < s.params.tryLimit → DueEntry.pipe p.handle ∉ s.due →
      exec c s = .next (kickTx (settled (updPipe p.handle (fun q => { q with tries := q.tries + 1 })
        { u with due := s.due ++ if s.loop = .running ∧ (findNode p.node s).map (·.state) = some .enrolled then
            [.pipe p.handle] else [] })))) ∧
    (p.state ≠ .closing → s.params.tryLimit ≤ p.tries + 1 →
      exec c s = .next (kickTx (settled (notify (.pipeFaulted p.handle true)
        (updPipe p.handle (fun q => { q with
            state := .faulted, tries := 0, clearNeeded := if p.state = .clearing then true else q.clearNeeded }) u))))) ∧
    (p.state = .closing → exec c s = .next (kickTx (settled (closed p.handle p.queue u))))

/-- R7, R61, R69, R173: a frame is acceptable to the loop receiver exactly where what was heard begins with the bytes of a
frame of at most 64 payload bytes with its check, each of those bytes with a valid stop bit; what follows them is not
read. A DATA with LEN above 64 writes nothing in a catch block; that any other, whatever becomes of it, writes the bytes
behind its LEN that have arrived, up to LEN of them, is the model's choice (log 18). -/
def Obligations.LoopFrameIsReadAsItWasSent : Prop :=
  ∀ (rx : LoopRx) (f : LoopFrame),
    (readLoop rx = some f ↔
      f.payload.length ≤ 64 ∧ (∃ tail, rx.bytes = encodeLoop f ++ tail) ∧
        ∀ k ∈ rx.stopFault, f.payload.length + 6 ≤ k) ∧
    ∀ (type addr pipeSeq len : Byte) (rest : List Byte), rx.bytes = type :: addr :: pipeSeq :: len :: rest →
      storedPayload rx.bytes = if type = 0x20 ∧ len.toNat ≤ 64 then rest.take len.toNat else []

/-- R65, R67, R69, R70, R71: a DATA of 1 to 64 bytes from the node and pipe of a FETCH is VALID: its payload is written
into the catch block and the CONFIRM with the DATA's bit is sent; it is accepted where that bit is the expected bit the
FETCH carried, else a duplicate. -/
def Obligations.DataIsConfirmed : Prop :=
  ∀ (addr pipeSeq : Byte) (payload : List Byte) (t : Transaction) (s : State), Hearing t s → t.call = .fetch →
    AnswersFrom t addr pipeSeq → 1 ≤ payload.length → payload.length ≤ 64 →
    let bit := pipeSeq.getLsbD 7
    exec (.data addr pipeSeq payload) s = .next (kickTx { s with
      engine := .confirming
      loopTx := some ⟨0x12, byteOf t.addr, pipeSeqByte t.pipe bit, []⟩
      txn := some { t with verdict := some ⟨decide (bit = t.seq), bit⟩ }
      catchSlot := s.catchSlot.map fun b => { b with payload := payload } })

/-- R16, R34, R37, R66, R70, R71, R81: at the end of the CONFIRM an accepted block joins the tail of the inbound queue, the
expected bit flips, the transfer count rises, tries are 0, and DATA-WAITING is asked for where the mark is clear, which
is set if the notice is stored; a duplicate's block goes to the free list and is counted. Either clears the silence. On a
CLOSING pipe the block and the silence are settled so and the close is complete. Outside RUNNING an active sift is then
cancelled. -/
def Obligations.ConfirmEndsTheFetch : Prop :=
  ∀ (p : Pipe) (b : Block) (t : Transaction) (seq : Bool) (s : State), s.rstHigh = true →
    s.engine = .confirming → s.txn = some t → CallOn p .fetch t → s.catchSlot = some b →
    findPipe p.handle s = some p →
    let heard := updNode p.node (fun m => { m with silence := 0 }) { txnOver s with catchSlot := none }
    let accepted := fun (mark : Bool) =>
      updPipe p.handle (fun q => { q with
          queue := q.queue ++ [b.release], seq := !q.seq, transfers := min (q.transfers + 1) 65535, tries := 0,
          waitingReported := mark }) heard
    let freed := { heard with free := s.free ++ [b.release] }
    (t.verdict = some ⟨true, seq⟩ → p.state ≠ .closing → p.waitingReported = true →
      exec .confirmSent s = .next (kickTx (settled (accepted true)))) ∧
    (t.verdict = some ⟨true, seq⟩ → p.state ≠ .closing → p.waitingReported = false → s.notices.length < 16 →
      exec .confirmSent s =
        .next (kickTx (settled (notify (.dataWaiting p.handle (p.queue.length + 1)) (accepted true))))) ∧
    (t.verdict = some ⟨true, seq⟩ → p.state ≠ .closing → p.waitingReported = false → 16 ≤ s.notices.length →
      exec .confirmSent s =
        .next (kickTx (settled (notify (.dataWaiting p.handle (p.queue.length + 1)) (accepted false))))) ∧
    (t.verdict = some ⟨false, seq⟩ → p.state ≠ .closing →
      exec .confirmSent s = .next (kickTx (settled
        (updPipe p.handle (fun q => { q with duplicates := min (q.duplicates + 1) 65535, tries := 0 }) freed)))) ∧
    (t.verdict = some ⟨true, seq⟩ → p.state = .closing →
      exec .confirmSent s = .next (kickTx (settled (closed p.handle (p.queue ++ [b.release]) heard)))) ∧
    (t.verdict = some ⟨false, seq⟩ → p.state = .closing →
      exec .confirmSent s = .next (kickTx (settled (closed p.handle p.queue freed))))

/-- R17, R37, R74, R75, R81: a TAKEN that echoes the DELIVER's bit frees the outbound head to the free-list tail, with
DELIVERED outcome TAKEN if it bore a confirm tag, clears the silence, flips the send bit, counts the transfer and clears
tries. On a CLOSING pipe the head and the silence are settled so and the close discards the rest. Outside RUNNING an
active sift is then cancelled. -/
def Obligations.TakenFreesTheHead : Prop :=
  ∀ (addr pipeSeq : Byte) (p : Pipe) (b : Block) (blocks : List Block) (t : Transaction) (s : State), Hearing t s →
    CallOn p .deliver t → AnswersFrom t addr pipeSeq → pipeSeq.getLsbD 7 = t.seq →
    findPipe p.handle s = some p → p.queue = b :: blocks →
    let delivered := forEach notify (b.confirm.toList.map fun tag => .delivered p.handle tag false)
    let heard := updNode p.node (fun m => { m with silence := 0 }) { txnOver s with free := s.free ++ [b.release] }
    (p.state ≠ .closing → exec (.taken addr pipeSeq []) s = .next (kickTx (settled (delivered
      (updPipe p.handle (fun q => { q with
          queue := blocks, seq := !q.seq, transfers := min (q.transfers + 1) 65535, tries := 0 }) heard))))) ∧
    (p.state = .closing →
      exec (.taken addr pipeSeq []) s = .next (kickTx (settled (closed p.handle blocks (delivered heard)))))

/-- R31, R32, R33, R37, R65, R72, R76, R77, R81: a HOLD to a FETCH or a DELIVER returns the block and clears silence and
tries; a REFUSE to a FETCH, a DELIVER or a CLEAR does the same and makes the pipe HALTED, with PIPE-HALTED. CLEARED makes
the pipe ACTIVE with sequence bit 0, tries 0 and clear-needed clear, with PIPE-READY, and clears the silence. On a CLOSING
pipe each returns the block and clears the silence, and the close is complete. Outside RUNNING an active sift is then
cancelled. -/
def Obligations.HoldRefuseAndClearedSettleThePipe : Prop :=
  (∀ (addr pipeSeq : Byte) (p : Pipe) (call : CallKind) (t : Transaction) (s : State), Hearing t s →
      CallOn p call t → AnswersFrom t addr pipeSeq → findPipe p.handle s = some p →
      let u := updNode p.node (fun m => { m with silence := 0 }) (blockReturned p call (txnOver s))
      (call = .fetch ∨ call = .deliver → p.state ≠ .closing →
        exec (.hold addr pipeSeq []) s =
          .next (kickTx (settled (updPipe p.handle (fun q => { q with tries := 0 }) u)))) ∧
      (call = .fetch ∨ call = .deliver ∨ call = .clear → p.state ≠ .closing →
        exec (.refuse addr pipeSeq []) s = .next (kickTx (settled (notify (.pipeHalted p.handle (decide (call = .clear)))
          (updPipe p.handle (fun q => { q with state := .halted, tries := 0 }) u))))) ∧
      (call = .fetch ∨ call = .deliver → p.state = .closing →
        exec (.hold addr pipeSeq []) s = .next (kickTx (settled (closed p.handle p.queue u)))) ∧
      (call = .fetch ∨ call = .deliver ∨ call = .clear → p.state = .closing →
        exec (.refuse addr pipeSeq []) s = .next (kickTx (settled (closed p.handle p.queue u))))) ∧
  (∀ (addr pipeSeq : Byte) (p : Pipe) (t : Transaction) (s : State), Hearing t s →
      CallOn p .clear t → AnswersFrom t addr pipeSeq → findPipe p.handle s = some p →
      let u := updNode p.node (fun m => { m with silence := 0 }) (txnOver s)
      (p.state ≠ .closing →
        exec (.cleared addr pipeSeq []) s = .next (kickTx (settled (notify (.pipeReady p.handle)
          (updPipe p.handle
            (fun q => { q with state := .active, seq := false, tries := 0, clearNeeded := false }) u))))) ∧
      (p.state = .closing →
        exec (.cleared addr pipeSeq []) s = .next (kickTx (settled (closed p.handle p.queue u)))))

/-- R7, R61, R65, R69: an answer that fails a check of its call settles nothing yet: the engine goes on waiting for the
line to fall quiet. The payload of a DATA to a FETCH has been written in the catch block, where it has no effect; that
one from another ADDR or pipe is written too is the model's choice (log 18). No other state changes. That a PRESENT is
held against the identity taken as the PING started is the model's reading (log 11). -/
def Obligations.UnacceptableAnswerWaitsForQuiet : Prop :=
  ∀ (addr pipeSeq : Byte) (payload : List Byte) (t : Transaction) (s : State), Hearing t s → payload.length ≤ 64 →
    let waits := Host.Outcome.next (kickTx { s with txn := some { t with heard := .unacceptable } })
    (t.call ≠ .fetch ∨ payload = [] → exec (.data addr pipeSeq payload) s = waits) ∧
    (t.call = .fetch → payload ≠ [] → addr.toNat ≠ t.answerFrom ∨ pipeNumberOf pipeSeq ≠ t.pipe →
      exec (.data addr pipeSeq payload) s =
        .next (kickTx { caught payload s with txn := some { t with heard := .unacceptable } })) ∧
    (t.call ≠ .deliver ∨ addr.toNat ≠ t.answerFrom ∨ pipeNumberOf pipeSeq ≠ t.pipe ∨ payload ≠ [] ∨
        pipeSeq.getLsbD 7 ≠ t.seq →
      exec (.taken addr pipeSeq payload) s = waits) ∧
    (t.call ≠ .fetch ∧ t.call ≠ .deliver ∨ addr.toNat ≠ t.answerFrom ∨ pipeNumberOf pipeSeq ≠ t.pipe ∨ payload ≠ [] →
      exec (.hold addr pipeSeq payload) s = waits) ∧
    (t.call ≠ .fetch ∧ t.call ≠ .deliver ∧ t.call ≠ .clear ∨ addr.toNat ≠ t.answerFrom ∨
        pipeNumberOf pipeSeq ≠ t.pipe ∨ payload ≠ [] →
      exec (.refuse addr pipeSeq payload) s = waits) ∧
    (t.call ≠ .clear ∨ addr.toNat ≠ t.answerFrom ∨ pipeNumberOf pipeSeq ≠ t.pipe ∨ payload ≠ [] →
      exec (.cleared addr pipeSeq payload) s = waits) ∧
    (t.call ≠ .dismiss ∨ addr.toNat ≠ t.answerFrom ∨ payload ≠ [] →
      exec (.dismissed addr pipeSeq payload) s = waits) ∧
    (t.call ≠ .probe ∨ addr.toNat ≠ t.answerFrom ∨
        ((payloadIdent payload).bind fun i => t.probed.map fun p => prefixCovers p i) ≠ some true →
      exec (.ident addr pipeSeq payload) s = waits) ∧
    (t.call ≠ .ping ∨ addr.toNat ≠ t.answerFrom ∨ payloadIdent payload ≠ t.identity ∨ payload.length ≠ 4 →
      exec (.present addr pipeSeq payload) s = waits) ∧
    (t.call ≠ .assign ∨ addr.toNat ≠ t.answerFrom ∨ payloadIdent payload ≠ t.identity ∨ payload.length ≠ 4 →
      exec (.adopted addr pipeSeq payload) s = waits)

/-! ## Node calls and the sift -/

/-- R39, R41, R81, R92, R93, R98: a PRESENT with the identity that the PING asks for brings a LOST node back: ENROLLED,
silence 0, its pipes' countdowns 1, NODE-BACK with cause RECALL; that this is the identity the record bore as the PING
started is the model's reading (log 11). DISMISSED removes the node's pipes with their queues, then its record without a
bar, and answers the DISMISS-NODE that waits, if one does, with the number of pipes removed (stated where no two pipes
bear one handle). Outside RUNNING an active sift is then cancelled. -/
def Obligations.PresentAndDismissedSettleTheNode : Prop :=
  (∀ (addr pipeSeq : Byte) (i : Ident) (n : Node) (t : Transaction) (s : State), Hearing t s →
      t.entry = .recall n.addr → t.call = .ping → addr.toNat = t.answerFrom → t.identity = some i →
      findNode n.addr s = some n → n.state = .lost →
      exec (.present addr pipeSeq (bytesOfIdent i)) s = .next (kickTx (settled (notify (.nodeBack n.addr false)
        (updNode n.addr (fun m => { m with state := .enrolled, silence := 0 })
          { txnOver s with
            pipes := s.pipes.map fun p => if p.node = n.addr then { p with countdown := 1 } else p }))))) ∧
  (∀ (addr pipeSeq : Byte) (n : Node) (t : Transaction) (s : State), Hearing t s →
      t.entry = .dismiss n.addr → t.call = .dismiss → addr.toNat = t.answerFrom → findNode n.addr s = some n →
      (s.pipes.map (·.handle)).Nodup →
      let gone := s.pipes.filter fun p => p.node == n.addr
      exec (.dismissed addr pipeSeq []) s = .next (kickTx (settled
        (answerDeferred (.dismiss n.addr) .ok (.dismissNode gone.length)
          (forEach notify (gone.flatMap fun p => discardNotices p.handle p.queue)
            { txnOver s with
              pipes := s.pipes.filter fun p => p.node ≠ n.addr
              nodes := s.nodes.eraseP fun m => m.addr == n.addr
              free := s.free ++ (gone.flatMap (·.queue)).map Block.release })))))

/-- R121, R128, R139, R142: when the event a deferred request waits for ends its deferral, its reply is recorded as the
newest entry, its window entry becomes REPLY-QUEUED and its frame joins the tail of the reply queue. The request in the
loop-control slot leaves it as it is answered so, a LINE-RESET with the counts of what it removed. -/
def Obligations.DeferredReplyIsComposed : Prop :=
  (∀ (code : Code) (sl : LoopSlot) (s : State),
    (s.loopSlot = none → answerSlot code s = s) ∧
    (s.loopSlot = some sl → answerSlot code s = answerDeferred .loopControl code
      (if sl.request = .reset then .lineReset sl.pipes sl.blocks else .none) { s with loopSlot := none })) ∧
  ∀ (w : Waits) (code : Code) (fields : ReplyFields) (older newer : List WindowEntry) (e : WindowEntry) (s : State),
    s.window = older ++ e :: newer → e.state = .deferred w → (∀ x ∈ older, x.state ≠ .deferred w ∧ x.tag ≠ e.tag) →
    answerDeferred w code fields s = { s with
      window := older ++ { e with state := .replyQueued } :: newer
      recent := keptEntries s ++ [⟨e.tag, e.kind, e.crc, ⟨replyKind e.kind, e.tag, code, fields⟩, [], false⟩]
      free := s.free ++ (pushedOut s).map Block.release
      replyQueue := s.replyQueue ++ [⟨⟨replyKind e.kind, e.tag, code, fields⟩, false, false⟩] }

/-- R109, R110, R111, R117: a VALID IDENT is held with the address of the record that bears the identity, or with the lowest
address neither occupied nor barred; with no such address the sift ends with TABLE-FULL. Outside RUNNING a sift that is
still active is then cancelled. -/
def Obligations.IdentChoosesTheAddress : Prop :=
  ∀ (pipeSeq : Byte) (i : Ident) (p : Prefix) (t : Transaction) (s : State), Hearing t s →
    t.entry = .sift → t.call = .probe → t.answerFrom = 0 → t.probed = some p → prefixCovers p i = true →
    let holding := fun (a : Nat) (kind : HeldKind) =>
      Host.Outcome.next (kickTx (settled { txnOver s with
        sift := { s.sift with state := .assigning, held := some ⟨i, a, kind, 0⟩ } }))
    let unusable := fun (a : Nat) => findNode a s ≠ none ∨ a ∈ s.barred
    (∀ n, s.nodes.find? (fun m => m.identity == i) = some n →
      exec (.ident 0 pipeSeq (bytesOfIdent i)) s = holding n.addr .readopt) ∧
    (∀ a, (∀ m ∈ s.nodes, m.identity ≠ i) → 1 ≤ a → a ≤ 30 → ¬unusable a → (∀ b, 1 ≤ b → b < a → unusable b) →
      exec (.ident 0 pipeSeq (bytesOfIdent i)) s = holding a .new) ∧
    ((∀ m ∈ s.nodes, m.identity ≠ i) → (∀ b, 1 ≤ b → b ≤ 30 → unusable b) →
      exec (.ident 0 pipeSeq (bytesOfIdent i)) s = .next (kickTx (settled (answerDeferred .sift .tableFull
        (.sift s.sift.joined s.sift.readopted s.sift.conflicts (min (s.sift.unassigned + 1) 255))
        { txnOver s with
          due := s.due.filter fun e => e ≠ .sift
          sift := { s.sift with state := .idle, stack := [], held := none,
                                unassigned := min (s.sift.unassigned + 1) 255 } }))))

/-- R68, R110, R116, R117: a PROBE that ends GARBLED with a prefix shorter than 32 bits pushes its two extensions, the 0
branch on top; at 32 bits it counts a conflict; NONE pushes nothing. None raises a counter of READ-STATUS, and with the
stack left empty the sift ends OK. Outside RUNNING a sift that is still active is then cancelled. -/
def Obligations.ProbeOutcomesDriveTheSearch : Prop :=
  ∀ (rx : LoopRx) (p : Prefix) (c : Instr) (t : Transaction) (s : State), s.rstHigh = true →
    s.engine = .awaiting → s.txn = some t → t.entry = .sift → t.call = .probe → t.probed = some p →
    let goesOn := fun (u : SiftUnit) => kickTx (settled (siftGoesOn { txnOver s with sift := u }))
    (t.heard = .nothing → exec .replyWindowExpiry s = .next (goesOn s.sift)) ∧
    (c = .garbledSettled rx ∧ (readLoop rx).bind (classify t) = none ∧
          (t.heard ≠ .nothing ∨ rx.bytes ≠ [] ∨ rx.stopFault ≠ none) ∨
        c = .garbleLimitExpiry ∧ t.heard ≠ .nothing →
      (p.len < 32 → exec c s = .next (kickTx (settled { txnOver s with
          sift := { s.sift with stack :=
            ⟨p.len + 1, p.bits⟩ :: ⟨p.len + 1, p.bits ||| 1#32 <<< (31 - p.len)⟩ :: s.sift.stack } }))) ∧
      (32 ≤ p.len → exec c s = .next (goesOn { s.sift with conflicts := min (s.sift.conflicts + 1) 255 })))

/-- R40, R87, R95, R113, R115, R116, R117: an ADOPTED from the new address with the held identity adds the record of a new
node, with NODE-JOINED, or re-adopts the record: ENROLLED with silence 0 (a DISMISSING node stays so), its pipes ACTIVE
with sequence bit 0 and countdown 1, NODE-BACK and then PIPE-READY for those that were stalled; a READOPT whose record is
gone is released as unassigned. The search then goes on, or ends OK with the stack empty; outside RUNNING a sift that is
still active is then cancelled. -/
def Obligations.AdoptedEnrolsTheNode : Prop :=
  ∀ (addr pipeSeq : Byte) (hd : Held) (n : Node) (t : Transaction) (s : State), Hearing t s →
    t.entry = .sift → t.call = .assign → t.probed = none → t.answerFrom = addr.toNat → t.identity = some hd.identity →
    s.sift.held = some hd →
    (hd.kind = .new → exec (.adopted addr pipeSeq (bytesOfIdent hd.identity)) s = .next (kickTx (settled (siftGoesOn
      (notify (.nodeJoined hd.addr hd.identity) { txnOver s with
        nodes := insertBy Node.addr ⟨hd.addr, hd.identity, .enrolled, 0, 0⟩ s.nodes
        sift := { s.sift with joined := min (s.sift.joined + 1) 255 } }))))) ∧
    (hd.kind = .readopt → s.nodes.find? (fun m => m.addr == hd.addr && m.identity == hd.identity) = some n →
      let mine := fun (p : Pipe) => decide (p.node = hd.addr)
      let stalled := s.pipes.filter fun p =>
        mine p && (decide (p.state = .clearing) || decide (p.state = .halted) || decide (p.state = .faulted))
      exec (.adopted addr pipeSeq (bytesOfIdent hd.identity)) s = .next (kickTx (settled (siftGoesOn
        (forEach notify (.nodeBack hd.addr true :: stalled.map fun p => .pipeReady p.handle)
          (updNode hd.addr (fun m => { m with
              state := if m.state = .dismissing then .dismissing else .enrolled, silence := 0, dismissTries := 0 })
            { txnOver s with
              due := if n.state = .dismissing then s.due
                else s.due.filter fun e => e ∉ (s.pipes.filter mine).map (fun p => DueEntry.pipe p.handle) ∧
                  ¬(n.state = .lost ∧ e = .recall hd.addr)
              pipes := s.pipes.map fun p => if mine p then
                { p with state := .active, seq := false, tries := 0, clearNeeded := false, countdown := 1 } else p
              sift := { s.sift with readopted := min (s.sift.readopted + 1) 255 } })))))) ∧
    (hd.kind = .readopt → (∀ m ∈ s.nodes, m.addr = hd.addr → m.identity ≠ hd.identity) →
      exec (.adopted addr pipeSeq (bytesOfIdent hd.identity)) s = .next (kickTx (settled (heldReleased (txnOver s)))))

/-- R68, R93, R99, R101, R114, R115, R116, R117: a PING, a DISMISS or an ASSIGN that is left unanswered or found garbled is
counted. The PING leaves the node as it was. The DISMISS raises the dismiss tries, and on NONE the silence, and in
RUNNING is appended again below the try limit; at the limit the node is LOST and its request answered NO-ANSWER. The
ASSIGN raises the sift tries, and in RUNNING is appended again below the limit; at the limit it is dropped, unassigned
raised and the address of a NEW identity barred, and a READOPT whose record is gone is dropped so at once with no bar;
the search then goes on or ends OK. Outside RUNNING a sift that is still active is then cancelled. Stated at the limit
where the address is not yet barred. -/
def Obligations.FailedNodeCallsAreRetriedToTheLimit : Prop :=
  ∀ (garbled : Bool) (rx : LoopRx) (c : Instr) (n : Node) (hd : Held) (t : Transaction) (s : State), s.rstHigh = true →
    s.engine = .awaiting → s.txn = some t →
    (garbled = false ∧ c = .replyWindowExpiry ∧ t.heard = .nothing ∨
      garbled = true ∧ c = .garbleLimitExpiry ∧ t.heard ≠ .nothing ∨
      garbled = true ∧ c = .garbledSettled rx ∧ (readLoop rx).bind (classify t) = none ∧
        (t.heard ≠ .nothing ∨ rx.bytes ≠ [] ∨ rx.stopFault ≠ none)) →
    let u := { txnOver s with
      counters := if garbled then { s.counters with answersGarbled := min (s.counters.answersGarbled + 1) 65535 }
        else { s.counters with callsUnanswered := min (s.counters.callsUnanswered + 1) 65535 } }
    (t.entry = .recall n.addr → t.call = .ping → exec c s = .next (kickTx (settled u))) ∧
    (t.entry = .dismiss n.addr → t.call = .dismiss → findNode n.addr s = some n →
      let silence := if garbled then n.silence else min (n.silence + 1) 32
      (n.dismissTries + 1 < s.params.tryLimit → DueEntry.dismiss n.addr ∉ s.due →
        exec c s = .next (kickTx (settled
          (updNode n.addr (fun m => { m with silence := silence, dismissTries := n.dismissTries + 1 })
            { u with due := s.due ++ if s.loop = .running then [.dismiss n.addr] else [] })))) ∧
      (s.params.tryLimit ≤ n.dismissTries + 1 →
        exec c s = .next (kickTx (settled (answerDeferred (.dismiss n.addr) .noAnswer (.dismissNode 0)
          (notify (.nodeLost n.addr)
            (updNode n.addr (fun m => { m with silence := silence, state := .lost, dismissTries := 0 })
              { u with due := s.due.filter fun e =>
                  e ∉ (s.pipes.filter fun q => q.node == n.addr).map fun q => DueEntry.pipe q.handle }))))))) ∧
    (t.entry = .sift → t.call = .assign → t.probed = none → s.sift.held = some hd →
      (hd.kind = .new ∨ (∃ m ∈ s.nodes, m.addr = hd.addr ∧ m.identity = hd.identity) →
        (hd.tries + 1 < s.params.tryLimit → DueEntry.sift ∉ s.due →
          exec c s = .next (kickTx (settled { u with
            due := s.due ++ if s.loop = .running then [.sift] else []
            sift := { s.sift with held := some { hd with tries := hd.tries + 1 } } }))) ∧
        (s.params.tryLimit ≤ hd.tries + 1 → hd.addr ∉ s.barred →
          ∃ barred, barred.Perm (if hd.kind = .new then hd.addr :: s.barred else s.barred) ∧
            exec c s = .next (kickTx (settled (heldReleased { u with barred := barred }))))) ∧
      (hd.kind = .readopt → (∀ m ∈ s.nodes, m.addr = hd.addr → m.identity ≠ hd.identity) →
        exec c s = .next (kickTx (settled (heldReleased u)))))

/-! ## Drains, the line reset and the line level -/

/-- R56, R58, R100, R117, R125, R126, R128, R129, R130: with nothing in flight STOP-LOOP in RUNNING enters STOPPED at once,
answered OK: the rounds end, an active sift is cancelled, the due list is cleared with the countdown of each dropped
entry's pipe set to 0, and DISMISSING nodes are settled; LINE-RESET enters RESETTING at once where the turnaround is over,
and it and REST-LOOP wait in DRAINING where it is not. At the end of the transaction a drain with target STOPPED is over:
the loop enters STOPPED so, and the request in the slot is answered OK; for the other targets the drain also waits for
the end of the turnaround, and then the REST broadcast begins, or the loop enters RESETTING. Stated where no two pipes
bear one handle and no two nodes one address. A dropped entry's pipe takes countdown 0 by R46 and R56, where R22 and R43
change no record: log 19's reading (DEDUCED from R23). -/
def Obligations.DrainEndReachesItsTarget : Prop :=
  ∀ s : State, (s.pipes.map (·.handle)).Nodup → (s.nodes.map (·.addr)).Nodup →
    let stopped := fun (u : State) => { dueCleared u with
      loop := .stopped, drainTarget := none, roundTimer := false, domTimer := false }
    (∀ tag : Byte, Accepts tag s → s.loop = .running → s.txn = none →
      exec (.stopLoop tag []) s =
        .next (kickTx (answered 0x06 tag [] .ok .none [] (stopped (siftCancelled s))))) ∧
    (∀ (tag : Byte) (r : LoopRequest), Accepts tag s → s.loop = .running → s.txn = none → r = .rest ∨ r = .reset →
      let draining := siftCancelled { deferred r.kind tag [] .loopControl s with
        loopSlot := some ⟨r, 0, 0⟩, loop := .draining, roundTimer := false,
        resume := if r = .reset then true else s.resume,
        drainTarget := some (if r = .rest then .resting else .resetting) }
      (s.engine = .turnaround → exec (r.command tag) s = .next (kickTx draining)) ∧
      (r = .reset → s.engine = .idle → s.phase = .quiet →
        exec (r.command tag) s = .next (kickTx (resetEntered draining)))) ∧
    (s.rstHigh = true → s.loop = .draining → s.txn = none → s.phase = .quiet →
      (s.drainTarget = some .stopped → exec .drainEnd s = .next (kickTx (answerSlot .ok (stopped s)))) ∧
      (s.drainTarget = some .resting → s.engine = .idle →
        exec .drainEnd s = .next (kickTx { dueCleared s with
          phase := .restFrame, loopTx := some ⟨0x18, 31, 0x00, []⟩ })) ∧
      (s.drainTarget = some .resetting → s.engine = .idle →
        exec .drainEnd s = .next (kickTx (resetEntered s))) ∧
      (s.drainTarget = some .resting ∨ s.drainTarget = some .resetting → s.engine = .turnaround →
        exec .drainEnd s = .next (kickTx s)))

/-- R124, R128, R130: after 20 ms the part releases the line and settles, a level then present measured from that
moment; after 10 ms of settle with the line recessive the loop enters RUNNING with a round start if the resume flag is
set, else STOPPED, and the request in the slot is answered OK; under a dominant level the settle runs on. -/
def Obligations.SettleEndsTheLineReset : Prop :=
  ∀ s : State, s.rstHigh = true →
    (s.phase = .resetDrive →
      exec .resetDriveExpiry s = .next (kickTx { s with phase := .resetSettle, domTimer := s.lineDominant })) ∧
    (s.phase = .resetSettle → s.lineDominant = true →
      exec .resetSettleExpiry s = .next (kickTx { s with phase := .settleExtended })) ∧
    (s.phase = .resetSettle → s.lineDominant = false → s.resume = true →
      exec .resetSettleExpiry s = .next (kickTx (answerSlot .ok
        (roundStep { s with phase := .quiet, loop := .running, roundTimer := true })))) ∧
    (s.phase = .resetSettle → s.lineDominant = false → s.resume = false →
      exec .resetSettleExpiry s = .next (kickTx (answerSlot .ok
        { s with phase := .quiet, loop := .stopped, domTimer := false })))

/-- R64, R130, R131, R132, R133: a dominant level starts the dominant timer in a watched state and counts as activity
in a reply window; its end clears the timer. In RESTING a level of 1 to 8 ms makes WAKE-SEEN and, with auto-wake on,
starts WAKING with the WAKE broadcast; a shorter one is noise. Its end also starts a WAKE broadcast that waited for it,
and ends a settle that ran on under it. That the end of a level of more than 8 ms makes no WAKE-SEEN in RESTING and does
nothing more, its fault being left to the LINE-FAULT command, is the model's choice (log 10). -/
def Obligations.LineLevelIsMeasured : Prop :=
  ∀ (lasted : Nat) (s : State), s.rstHigh = true →
    (s.lineDominant = false → s.engine ≠ .awaiting →
      exec .lineDominant s = .next (kickTx { s with lineDominant := true, domTimer := lineWatched s })) ∧
    (∀ t, s.lineDominant = false → s.engine = .awaiting → s.txn = some t →
      exec .lineDominant s = .next (kickTx { s with
        lineDominant := true, domTimer := lineWatched s
        txn := some { t with heard := if t.heard = .nothing then .activity else t.heard } })) ∧
    (s.lineDominant = true → s.loop = .running ∨ s.loop = .draining ∨ s.loop = .off ∨ s.loop = .stopped ∨
        s.loop = .resting ∧ (lasted < 1000 ∨ 8000 < lasted) →
      exec (.lineRecessive lasted) s = .next (kickTx { s with lineDominant := false, domTimer := false })) ∧
    (s.lineDominant = true → s.loop = .resting → 1000 ≤ lasted → lasted ≤ 8000 →
      exec (.lineRecessive lasted) s = .next (kickTx
        (let u := notify .wakeSeen { s with lineDominant := false, domTimer := false }
         if s.params.autoWake then
           { u with loop := .waking, phase := .wakeFrame, loopTx := some ⟨0x19, 31, 0x00, []⟩ }
         else u))) ∧
    (s.lineDominant = true → s.loop = .waking → s.phase = .wakeWait →
      exec (.lineRecessive lasted) s = .next (kickTx { s with
        lineDominant := false, domTimer := false, phase := .wakeFrame, loopTx := some ⟨0x19, 31, 0x00, []⟩ })) ∧
    (s.lineDominant = true → s.loop = .resetting → s.phase = .settleExtended →
      exec (.lineRecessive lasted) s = .next (kickTx (answerSlot .ok
        (let u := { s with lineDominant := false, domTimer := false, phase := .quiet }
         if s.resume then roundStep { u with loop := .running, roundTimer := true } else { u with loop := .stopped })))) ∧
    (s.lineDominant = true → s.loop = .waking ∧ s.phase ≠ .wakeWait ∨ s.loop = .resetting ∧ s.phase ≠ .settleExtended →
      exec (.lineRecessive lasted) s = .next (kickTx { s with lineDominant := false, domTimer := false }))

/-- R7, R16, R17, R37, R57, R70, R79, R100, R117, R118, R120, R133, R134: a line fault is taken only while the dominant
timer runs. It leaves the loop STOPPED with no transaction, an empty due list, no sift, no DISMISSING node, no request in the
slot, the timers stopped and the line released; the line faults counter is raised; the parameters, the recall countdown
and the Host Port stand. With nothing in flight, no sift, no node DISMISSING and no request waiting it changes exactly
what the third clause gives. The last clause gives its whole effect by what was in flight: a pipe's block goes back and
nothing is counted, but an accepted DATA stands, and a CLOSING pipe's close is complete; a PING, a DISMISS and a PROBE
leave nothing; an ASSIGN counts as unassigned, and the address of a NEW identity is barred. What an answer being received
had written in the catch block that goes back is a free value (log 18). Stated where no two nodes bear one address, and no
two pipes one handle. That a fault taken while WAKE waits for the line is reported with WAKING is the model's reading (log
14). A dropped entry's pipe takes countdown 0 by R46 and R57, where R22 and R43 change no record: log 19's
reading (DEDUCED from R23). -/
def Obligations.LineFaultStopsTheLoop : Prop :=
  ∀ s : State, s.rstHigh = true →
    (s.domTimer = false → exec .lineFault s = .next (kickTx s)) ∧
    (s.domTimer = true → (s.nodes.map (·.addr)).Nodup →
      ∃ u, exec .lineFault s = .next (kickTx u) ∧ u.loop = .stopped ∧ u.engine = .idle ∧ u.txn = none ∧ u.due = [] ∧
        u.sift.state = .idle ∧ u.roundTimer = false ∧ u.domTimer = false ∧ u.phase = .quiet ∧ u.loopTx = none ∧ u.drainTarget = none ∧
        u.resume = false ∧ u.loopSlot = none ∧ (∀ n ∈ u.nodes, n.state ≠ .dismissing) ∧
        u.counters = { s.counters with lineFaults := min (s.counters.lineFaults + 1) 65535 } ∧
        u.params = s.params ∧ u.recallCountdown = s.recallCountdown ∧ u.rx = s.rx ∧ u.tx = s.tx ∧
        u.refusal = s.refusal ∧ u.hostRate = s.hostRate) ∧
    (s.domTimer = true → s.txn = none → s.sift.state = .idle → s.loopSlot = none →
      (∀ n ∈ s.nodes, n.state ≠ .dismissing) → (s.pipes.map (·.handle)).Nodup →
      exec .lineFault s = .next (kickTx (notify (.lineFault s.loop) { s with
        engine := .idle, loopTx := none, due := [], loop := .stopped, roundTimer := false, phase := .quiet,
        drainTarget := none, resume := false, domTimer := false
        pipes := s.pipes.map fun p => if DueEntry.pipe p.handle ∈ s.due then { p with countdown := 0 } else p
        counters := { s.counters with lineFaults := min (s.counters.lineFaults + 1) 65535 } }))) ∧
    (s.domTimer = true → (s.nodes.map (·.addr)).Nodup → (s.pipes.map (·.handle)).Nodup →
      let gone := { s with engine := .idle, txn := none, loopTx := none }
      (s.txn = none → exec .lineFault s = .next (kickTx (faultStops gone))) ∧
      (∀ (p : Pipe) (call : CallKind) (t : Transaction), s.txn = some t → CallOn p call t →
        (call = .fetch ∨ call = .deliver ∨ call = .clear) → findPipe p.handle s = some p →
        let back := blockReturned p call (if t.verdict = none then cutOff t gone else gone)
        ((∀ v ∈ t.verdict, v.accepted = false) →
          (p.state ≠ .closing → exec .lineFault s = .next (kickTx (faultStops back))) ∧
          (p.state = .closing → exec .lineFault s = .next (kickTx (faultStops (closed p.handle p.queue back))))) ∧
        (∀ b seq, call = .fetch → t.verdict = some ⟨true, seq⟩ → s.catchSlot = some b →
          (p.state ≠ .closing → exec .lineFault s = .next (kickTx (faultStops (dataAccepted p b gone)))) ∧
          (p.state = .closing → exec .lineFault s = .next (kickTx (faultStops
            (closed p.handle (p.queue ++ [b.release])
              (updNode p.node (fun m => { m with silence := 0 }) { gone with catchSlot := none }))))))) ∧
      (∀ (a : Nat) (t : Transaction), s.txn = some t → t.verdict = none → t.call ≠ .fetch →
        (t.entry = .recall a ∨ t.entry = .dismiss a ∨ t.entry = .sift ∧ t.probed ≠ none) →
        exec .lineFault s = .next (kickTx (faultStops gone))) ∧
      (∀ (hd : Held) (t : Transaction), s.txn = some t → t.verdict = none → t.call = .assign → t.entry = .sift → t.probed = none →
        s.sift.held = some hd →
        exec .lineFault s = .next (kickTx (faultStops { gone with
          barred := if hd.kind = .new then barredWith hd.addr s.barred else s.barred
          sift := { s.sift with held := none, unassigned := min (s.sift.unassigned + 1) 255 } }))))

/-! ## Invariants -/

/-- R152: the part after reset is consistent in every way the following statements name. -/
def Obligations.ResetPartIsConsistent : Prop := PartConsistent State.reset

/-- R2, R7: every step keeps each of the 96 blocks in exactly one place. -/
def Obligations.StepKeepsEveryBlockInOnePlace : Prop :=
  ∀ s t : State, PoolConsistent s → step s = .next t → PoolConsistent t

/-- R8, R139, R143: every step keeps the request window and the recent-reply table within their bounds, tags distinct. -/
def Obligations.StepKeepsTheRequestTables : Prop :=
  ∀ s t : State, TablesConsistent s → step s = .next t → TablesConsistent t

/-- R154, R155: every step keeps at most 16 notices, numbered consecutively across the wrap. -/
def Obligations.StepKeepsNoticeNumbersConsecutive : Prop :=
  ∀ s t : State, NoticesConsistent s → step s = .next t → NoticesConsistent t

/-- R49: every step keeps the due list free of repeated entries. -/
def Obligations.StepKeepsTheDueListDistinct : Prop :=
  ∀ s t : State, s.due.Nodup → step s = .next t → t.due.Nodup

/-- R44, R49, R62, R105, R120, R133: every step keeps the loop state in agreement with its timers, the drain target, the
engine, the due list and the sift. -/
def Obligations.StepKeepsTheLoopConsistent : Prop :=
  ∀ s t : State, LoopConsistent s → step s = .next t → LoopConsistent t

/-- R34, R90, R105, R149, R157: every step keeps the saturating counts at or below the values where they stop: the seven
counters of READ-STATUS, each pipe's transfers and duplicates, the silence counts, the sift's tallies and the missed
count. -/
def Obligations.StepKeepsTheCountsBounded : Prop :=
  ∀ s t : State, CountsBounded s → step s = .next t → CountsBounded t

/-- R22, R23: every step keeps the pipe table in handle order, each handle once and no node and pipe number twice, with
every handle, node address, pipe number, period and quota in range. -/
def Obligations.StepKeepsThePipeTable : Prop :=
  ∀ s t : State, PipesConsistent s → step s = .next t → PipesConsistent t

/-- R87, R88, R101, R111: every step keeps addresses and identities distinct and the barred addresses unoccupied. -/
def Obligations.StepKeepsTheNodeTable : Prop :=
  ∀ s t : State, NodesConsistent s → step s = .next t → NodesConsistent t
end

