-- ==== Sys2Proof/Laws/State.lean ====
section
/-! SUPPORT. What each shared update of the state leaves alone, one lemma per field. -/

namespace Sys2Proof.Machine

section updPipe

variable (h : Nat) (f : Pipe → Pipe) (s : State)

@[simp] theorem updPipe_pending : (updPipe h f s).pending = s.pending := rfl
@[simp] theorem updPipe_draws : (updPipe h f s).draws = s.draws := rfl
@[simp] theorem updPipe_rstHigh : (updPipe h f s).rstHigh = s.rstHigh := rfl
@[simp] theorem updPipe_cold : (updPipe h f s).cold = s.cold := rfl
@[simp] theorem updPipe_rate1 : (updPipe h f s).rate1 = s.rate1 := rfl
@[simp] theorem updPipe_rate0 : (updPipe h f s).rate0 = s.rate0 := rfl
@[simp] theorem updPipe_hostRate : (updPipe h f s).hostRate = s.hostRate := rfl
@[simp] theorem updPipe_lineDominant : (updPipe h f s).lineDominant = s.lineDominant := rfl
@[simp] theorem updPipe_rx : (updPipe h f s).rx = s.rx := rfl
@[simp] theorem updPipe_tx : (updPipe h f s).tx = s.tx := rfl
@[simp] theorem updPipe_replyQueue : (updPipe h f s).replyQueue = s.replyQueue := rfl
@[simp] theorem updPipe_counters : (updPipe h f s).counters = s.counters := rfl
@[simp] theorem updPipe_window : (updPipe h f s).window = s.window := rfl
@[simp] theorem updPipe_refusal : (updPipe h f s).refusal = s.refusal := rfl
@[simp] theorem updPipe_recent : (updPipe h f s).recent = s.recent := rfl
@[simp] theorem updPipe_loopSlot : (updPipe h f s).loopSlot = s.loopSlot := rfl
@[simp] theorem updPipe_restartPending : (updPipe h f s).restartPending = s.restartPending := rfl
@[simp] theorem updPipe_free : (updPipe h f s).free = s.free := rfl
@[simp] theorem updPipe_catchSlot : (updPipe h f s).catchSlot = s.catchSlot := rfl
@[simp] theorem updPipe_nodes : (updPipe h f s).nodes = s.nodes := rfl
@[simp] theorem updPipe_barred : (updPipe h f s).barred = s.barred := rfl
@[simp] theorem updPipe_roundTimer : (updPipe h f s).roundTimer = s.roundTimer := rfl
@[simp] theorem updPipe_recallCountdown : (updPipe h f s).recallCountdown = s.recallCountdown := rfl
@[simp] theorem updPipe_due : (updPipe h f s).due = s.due := rfl
@[simp] theorem updPipe_engine : (updPipe h f s).engine = s.engine := rfl
@[simp] theorem updPipe_txn : (updPipe h f s).txn = s.txn := rfl
@[simp] theorem updPipe_loopTx : (updPipe h f s).loopTx = s.loopTx := rfl
@[simp] theorem updPipe_sift : (updPipe h f s).sift = s.sift := rfl
@[simp] theorem updPipe_loop : (updPipe h f s).loop = s.loop := rfl
@[simp] theorem updPipe_drainTarget : (updPipe h f s).drainTarget = s.drainTarget := rfl
@[simp] theorem updPipe_resume : (updPipe h f s).resume = s.resume := rfl
@[simp] theorem updPipe_params : (updPipe h f s).params = s.params := rfl
@[simp] theorem updPipe_phase : (updPipe h f s).phase = s.phase := rfl
@[simp] theorem updPipe_domTimer : (updPipe h f s).domTimer = s.domTimer := rfl
@[simp] theorem updPipe_notices : (updPipe h f s).notices = s.notices := rfl
@[simp] theorem updPipe_nextNumber : (updPipe h f s).nextNumber = s.nextNumber := rfl
@[simp] theorem updPipe_missed : (updPipe h f s).missed = s.missed := rfl
@[simp] theorem updPipe_resendTimer : (updPipe h f s).resendTimer = s.resendTimer := rfl

end updPipe

section updNode

variable (a : Nat) (f : Node → Node) (s : State)

@[simp] theorem updNode_pending : (updNode a f s).pending = s.pending := rfl
@[simp] theorem updNode_draws : (updNode a f s).draws = s.draws := rfl
@[simp] theorem updNode_rstHigh : (updNode a f s).rstHigh = s.rstHigh := rfl
@[simp] theorem updNode_cold : (updNode a f s).cold = s.cold := rfl
@[simp] theorem updNode_rate1 : (updNode a f s).rate1 = s.rate1 := rfl
@[simp] theorem updNode_rate0 : (updNode a f s).rate0 = s.rate0 := rfl
@[simp] theorem updNode_hostRate : (updNode a f s).hostRate = s.hostRate := rfl
@[simp] theorem updNode_lineDominant : (updNode a f s).lineDominant = s.lineDominant := rfl
@[simp] theorem updNode_rx : (updNode a f s).rx = s.rx := rfl
@[simp] theorem updNode_tx : (updNode a f s).tx = s.tx := rfl
@[simp] theorem updNode_replyQueue : (updNode a f s).replyQueue = s.replyQueue := rfl
@[simp] theorem updNode_counters : (updNode a f s).counters = s.counters := rfl
@[simp] theorem updNode_window : (updNode a f s).window = s.window := rfl
@[simp] theorem updNode_refusal : (updNode a f s).refusal = s.refusal := rfl
@[simp] theorem updNode_recent : (updNode a f s).recent = s.recent := rfl
@[simp] theorem updNode_loopSlot : (updNode a f s).loopSlot = s.loopSlot := rfl
@[simp] theorem updNode_restartPending : (updNode a f s).restartPending = s.restartPending := rfl
@[simp] theorem updNode_free : (updNode a f s).free = s.free := rfl
@[simp] theorem updNode_catchSlot : (updNode a f s).catchSlot = s.catchSlot := rfl
@[simp] theorem updNode_pipes : (updNode a f s).pipes = s.pipes := rfl
@[simp] theorem updNode_barred : (updNode a f s).barred = s.barred := rfl
@[simp] theorem updNode_roundTimer : (updNode a f s).roundTimer = s.roundTimer := rfl
@[simp] theorem updNode_recallCountdown : (updNode a f s).recallCountdown = s.recallCountdown := rfl
@[simp] theorem updNode_due : (updNode a f s).due = s.due := rfl
@[simp] theorem updNode_engine : (updNode a f s).engine = s.engine := rfl
@[simp] theorem updNode_txn : (updNode a f s).txn = s.txn := rfl
@[simp] theorem updNode_loopTx : (updNode a f s).loopTx = s.loopTx := rfl
@[simp] theorem updNode_sift : (updNode a f s).sift = s.sift := rfl
@[simp] theorem updNode_loop : (updNode a f s).loop = s.loop := rfl
@[simp] theorem updNode_drainTarget : (updNode a f s).drainTarget = s.drainTarget := rfl
@[simp] theorem updNode_resume : (updNode a f s).resume = s.resume := rfl
@[simp] theorem updNode_params : (updNode a f s).params = s.params := rfl
@[simp] theorem updNode_phase : (updNode a f s).phase = s.phase := rfl
@[simp] theorem updNode_domTimer : (updNode a f s).domTimer = s.domTimer := rfl
@[simp] theorem updNode_notices : (updNode a f s).notices = s.notices := rfl
@[simp] theorem updNode_nextNumber : (updNode a f s).nextNumber = s.nextNumber := rfl
@[simp] theorem updNode_missed : (updNode a f s).missed = s.missed := rfl
@[simp] theorem updNode_resendTimer : (updNode a f s).resendTimer = s.resendTimer := rfl

end updNode

section updSift

variable (f : SiftUnit → SiftUnit) (s : State)

@[simp] theorem updSift_pending : (updSift f s).pending = s.pending := rfl
@[simp] theorem updSift_draws : (updSift f s).draws = s.draws := rfl
@[simp] theorem updSift_rstHigh : (updSift f s).rstHigh = s.rstHigh := rfl
@[simp] theorem updSift_cold : (updSift f s).cold = s.cold := rfl
@[simp] theorem updSift_rate1 : (updSift f s).rate1 = s.rate1 := rfl
@[simp] theorem updSift_rate0 : (updSift f s).rate0 = s.rate0 := rfl
@[simp] theorem updSift_hostRate : (updSift f s).hostRate = s.hostRate := rfl
@[simp] theorem updSift_lineDominant : (updSift f s).lineDominant = s.lineDominant := rfl
@[simp] theorem updSift_rx : (updSift f s).rx = s.rx := rfl
@[simp] theorem updSift_tx : (updSift f s).tx = s.tx := rfl
@[simp] theorem updSift_replyQueue : (updSift f s).replyQueue = s.replyQueue := rfl
@[simp] theorem updSift_counters : (updSift f s).counters = s.counters := rfl
@[simp] theorem updSift_window : (updSift f s).window = s.window := rfl
@[simp] theorem updSift_refusal : (updSift f s).refusal = s.refusal := rfl
@[simp] theorem updSift_recent : (updSift f s).recent = s.recent := rfl
@[simp] theorem updSift_loopSlot : (updSift f s).loopSlot = s.loopSlot := rfl
@[simp] theorem updSift_restartPending : (updSift f s).restartPending = s.restartPending := rfl
@[simp] theorem updSift_free : (updSift f s).free = s.free := rfl
@[simp] theorem updSift_catchSlot : (updSift f s).catchSlot = s.catchSlot := rfl
@[simp] theorem updSift_pipes : (updSift f s).pipes = s.pipes := rfl
@[simp] theorem updSift_nodes : (updSift f s).nodes = s.nodes := rfl
@[simp] theorem updSift_barred : (updSift f s).barred = s.barred := rfl
@[simp] theorem updSift_roundTimer : (updSift f s).roundTimer = s.roundTimer := rfl
@[simp] theorem updSift_recallCountdown : (updSift f s).recallCountdown = s.recallCountdown := rfl
@[simp] theorem updSift_due : (updSift f s).due = s.due := rfl
@[simp] theorem updSift_engine : (updSift f s).engine = s.engine := rfl
@[simp] theorem updSift_txn : (updSift f s).txn = s.txn := rfl
@[simp] theorem updSift_loopTx : (updSift f s).loopTx = s.loopTx := rfl
@[simp] theorem updSift_loop : (updSift f s).loop = s.loop := rfl
@[simp] theorem updSift_drainTarget : (updSift f s).drainTarget = s.drainTarget := rfl
@[simp] theorem updSift_resume : (updSift f s).resume = s.resume := rfl
@[simp] theorem updSift_params : (updSift f s).params = s.params := rfl
@[simp] theorem updSift_phase : (updSift f s).phase = s.phase := rfl
@[simp] theorem updSift_domTimer : (updSift f s).domTimer = s.domTimer := rfl
@[simp] theorem updSift_notices : (updSift f s).notices = s.notices := rfl
@[simp] theorem updSift_nextNumber : (updSift f s).nextNumber = s.nextNumber := rfl
@[simp] theorem updSift_missed : (updSift f s).missed = s.missed := rfl
@[simp] theorem updSift_resendTimer : (updSift f s).resendTimer = s.resendTimer := rfl

end updSift

section updTxn

variable (f : Transaction → Transaction) (s : State)

@[simp] theorem updTxn_pending : (updTxn f s).pending = s.pending := rfl
@[simp] theorem updTxn_draws : (updTxn f s).draws = s.draws := rfl
@[simp] theorem updTxn_rstHigh : (updTxn f s).rstHigh = s.rstHigh := rfl
@[simp] theorem updTxn_cold : (updTxn f s).cold = s.cold := rfl
@[simp] theorem updTxn_rate1 : (updTxn f s).rate1 = s.rate1 := rfl
@[simp] theorem updTxn_rate0 : (updTxn f s).rate0 = s.rate0 := rfl
@[simp] theorem updTxn_hostRate : (updTxn f s).hostRate = s.hostRate := rfl
@[simp] theorem updTxn_lineDominant : (updTxn f s).lineDominant = s.lineDominant := rfl
@[simp] theorem updTxn_rx : (updTxn f s).rx = s.rx := rfl
@[simp] theorem updTxn_tx : (updTxn f s).tx = s.tx := rfl
@[simp] theorem updTxn_replyQueue : (updTxn f s).replyQueue = s.replyQueue := rfl
@[simp] theorem updTxn_counters : (updTxn f s).counters = s.counters := rfl
@[simp] theorem updTxn_window : (updTxn f s).window = s.window := rfl
@[simp] theorem updTxn_refusal : (updTxn f s).refusal = s.refusal := rfl
@[simp] theorem updTxn_recent : (updTxn f s).recent = s.recent := rfl
@[simp] theorem updTxn_loopSlot : (updTxn f s).loopSlot = s.loopSlot := rfl
@[simp] theorem updTxn_restartPending : (updTxn f s).restartPending = s.restartPending := rfl
@[simp] theorem updTxn_free : (updTxn f s).free = s.free := rfl
@[simp] theorem updTxn_catchSlot : (updTxn f s).catchSlot = s.catchSlot := rfl
@[simp] theorem updTxn_pipes : (updTxn f s).pipes = s.pipes := rfl
@[simp] theorem updTxn_nodes : (updTxn f s).nodes = s.nodes := rfl
@[simp] theorem updTxn_barred : (updTxn f s).barred = s.barred := rfl
@[simp] theorem updTxn_roundTimer : (updTxn f s).roundTimer = s.roundTimer := rfl
@[simp] theorem updTxn_recallCountdown : (updTxn f s).recallCountdown = s.recallCountdown := rfl
@[simp] theorem updTxn_due : (updTxn f s).due = s.due := rfl
@[simp] theorem updTxn_engine : (updTxn f s).engine = s.engine := rfl
@[simp] theorem updTxn_loopTx : (updTxn f s).loopTx = s.loopTx := rfl
@[simp] theorem updTxn_sift : (updTxn f s).sift = s.sift := rfl
@[simp] theorem updTxn_loop : (updTxn f s).loop = s.loop := rfl
@[simp] theorem updTxn_drainTarget : (updTxn f s).drainTarget = s.drainTarget := rfl
@[simp] theorem updTxn_resume : (updTxn f s).resume = s.resume := rfl
@[simp] theorem updTxn_params : (updTxn f s).params = s.params := rfl
@[simp] theorem updTxn_phase : (updTxn f s).phase = s.phase := rfl
@[simp] theorem updTxn_domTimer : (updTxn f s).domTimer = s.domTimer := rfl
@[simp] theorem updTxn_notices : (updTxn f s).notices = s.notices := rfl
@[simp] theorem updTxn_nextNumber : (updTxn f s).nextNumber = s.nextNumber := rfl
@[simp] theorem updTxn_missed : (updTxn f s).missed = s.missed := rfl
@[simp] theorem updTxn_resendTimer : (updTxn f s).resendTimer = s.resendTimer := rfl

end updTxn

section freeBlocks

variable (bs : List Block) (s : State)

@[simp] theorem freeBlocks_pending : (freeBlocks bs s).pending = s.pending := rfl
@[simp] theorem freeBlocks_draws : (freeBlocks bs s).draws = s.draws := rfl
@[simp] theorem freeBlocks_rstHigh : (freeBlocks bs s).rstHigh = s.rstHigh := rfl
@[simp] theorem freeBlocks_cold : (freeBlocks bs s).cold = s.cold := rfl
@[simp] theorem freeBlocks_rate1 : (freeBlocks bs s).rate1 = s.rate1 := rfl
@[simp] theorem freeBlocks_rate0 : (freeBlocks bs s).rate0 = s.rate0 := rfl
@[simp] theorem freeBlocks_hostRate : (freeBlocks bs s).hostRate = s.hostRate := rfl
@[simp] theorem freeBlocks_lineDominant : (freeBlocks bs s).lineDominant = s.lineDominant := rfl
@[simp] theorem freeBlocks_rx : (freeBlocks bs s).rx = s.rx := rfl
@[simp] theorem freeBlocks_tx : (freeBlocks bs s).tx = s.tx := rfl
@[simp] theorem freeBlocks_replyQueue : (freeBlocks bs s).replyQueue = s.replyQueue := rfl
@[simp] theorem freeBlocks_counters : (freeBlocks bs s).counters = s.counters := rfl
@[simp] theorem freeBlocks_window : (freeBlocks bs s).window = s.window := rfl
@[simp] theorem freeBlocks_refusal : (freeBlocks bs s).refusal = s.refusal := rfl
@[simp] theorem freeBlocks_recent : (freeBlocks bs s).recent = s.recent := rfl
@[simp] theorem freeBlocks_loopSlot : (freeBlocks bs s).loopSlot = s.loopSlot := rfl
@[simp] theorem freeBlocks_restartPending : (freeBlocks bs s).restartPending = s.restartPending := rfl
@[simp] theorem freeBlocks_catchSlot : (freeBlocks bs s).catchSlot = s.catchSlot := rfl
@[simp] theorem freeBlocks_pipes : (freeBlocks bs s).pipes = s.pipes := rfl
@[simp] theorem freeBlocks_nodes : (freeBlocks bs s).nodes = s.nodes := rfl
@[simp] theorem freeBlocks_barred : (freeBlocks bs s).barred = s.barred := rfl
@[simp] theorem freeBlocks_roundTimer : (freeBlocks bs s).roundTimer = s.roundTimer := rfl
@[simp] theorem freeBlocks_recallCountdown : (freeBlocks bs s).recallCountdown = s.recallCountdown := rfl
@[simp] theorem freeBlocks_due : (freeBlocks bs s).due = s.due := rfl
@[simp] theorem freeBlocks_engine : (freeBlocks bs s).engine = s.engine := rfl
@[simp] theorem freeBlocks_txn : (freeBlocks bs s).txn = s.txn := rfl
@[simp] theorem freeBlocks_loopTx : (freeBlocks bs s).loopTx = s.loopTx := rfl
@[simp] theorem freeBlocks_sift : (freeBlocks bs s).sift = s.sift := rfl
@[simp] theorem freeBlocks_loop : (freeBlocks bs s).loop = s.loop := rfl
@[simp] theorem freeBlocks_drainTarget : (freeBlocks bs s).drainTarget = s.drainTarget := rfl
@[simp] theorem freeBlocks_resume : (freeBlocks bs s).resume = s.resume := rfl
@[simp] theorem freeBlocks_params : (freeBlocks bs s).params = s.params := rfl
@[simp] theorem freeBlocks_phase : (freeBlocks bs s).phase = s.phase := rfl
@[simp] theorem freeBlocks_domTimer : (freeBlocks bs s).domTimer = s.domTimer := rfl
@[simp] theorem freeBlocks_notices : (freeBlocks bs s).notices = s.notices := rfl
@[simp] theorem freeBlocks_nextNumber : (freeBlocks bs s).nextNumber = s.nextNumber := rfl
@[simp] theorem freeBlocks_missed : (freeBlocks bs s).missed = s.missed := rfl
@[simp] theorem freeBlocks_resendTimer : (freeBlocks bs s).resendTimer = s.resendTimer := rfl

end freeBlocks

section removeDue

variable (e : DueEntry) (s : State)

@[simp] theorem removeDue_pending : (removeDue e s).pending = s.pending := rfl
@[simp] theorem removeDue_draws : (removeDue e s).draws = s.draws := rfl
@[simp] theorem removeDue_rstHigh : (removeDue e s).rstHigh = s.rstHigh := rfl
@[simp] theorem removeDue_cold : (removeDue e s).cold = s.cold := rfl
@[simp] theorem removeDue_rate1 : (removeDue e s).rate1 = s.rate1 := rfl
@[simp] theorem removeDue_rate0 : (removeDue e s).rate0 = s.rate0 := rfl
@[simp] theorem removeDue_hostRate : (removeDue e s).hostRate = s.hostRate := rfl
@[simp] theorem removeDue_lineDominant : (removeDue e s).lineDominant = s.lineDominant := rfl
@[simp] theorem removeDue_rx : (removeDue e s).rx = s.rx := rfl
@[simp] theorem removeDue_tx : (removeDue e s).tx = s.tx := rfl
@[simp] theorem removeDue_replyQueue : (removeDue e s).replyQueue = s.replyQueue := rfl
@[simp] theorem removeDue_counters : (removeDue e s).counters = s.counters := rfl
@[simp] theorem removeDue_window : (removeDue e s).window = s.window := rfl
@[simp] theorem removeDue_refusal : (removeDue e s).refusal = s.refusal := rfl
@[simp] theorem removeDue_recent : (removeDue e s).recent = s.recent := rfl
@[simp] theorem removeDue_loopSlot : (removeDue e s).loopSlot = s.loopSlot := rfl
@[simp] theorem removeDue_restartPending : (removeDue e s).restartPending = s.restartPending := rfl
@[simp] theorem removeDue_free : (removeDue e s).free = s.free := rfl
@[simp] theorem removeDue_catchSlot : (removeDue e s).catchSlot = s.catchSlot := rfl
@[simp] theorem removeDue_pipes : (removeDue e s).pipes = s.pipes := rfl
@[simp] theorem removeDue_nodes : (removeDue e s).nodes = s.nodes := rfl
@[simp] theorem removeDue_barred : (removeDue e s).barred = s.barred := rfl
@[simp] theorem removeDue_roundTimer : (removeDue e s).roundTimer = s.roundTimer := rfl
@[simp] theorem removeDue_recallCountdown : (removeDue e s).recallCountdown = s.recallCountdown := rfl
@[simp] theorem removeDue_engine : (removeDue e s).engine = s.engine := rfl
@[simp] theorem removeDue_txn : (removeDue e s).txn = s.txn := rfl
@[simp] theorem removeDue_loopTx : (removeDue e s).loopTx = s.loopTx := rfl
@[simp] theorem removeDue_sift : (removeDue e s).sift = s.sift := rfl
@[simp] theorem removeDue_loop : (removeDue e s).loop = s.loop := rfl
@[simp] theorem removeDue_drainTarget : (removeDue e s).drainTarget = s.drainTarget := rfl
@[simp] theorem removeDue_resume : (removeDue e s).resume = s.resume := rfl
@[simp] theorem removeDue_params : (removeDue e s).params = s.params := rfl
@[simp] theorem removeDue_phase : (removeDue e s).phase = s.phase := rfl
@[simp] theorem removeDue_domTimer : (removeDue e s).domTimer = s.domTimer := rfl
@[simp] theorem removeDue_notices : (removeDue e s).notices = s.notices := rfl
@[simp] theorem removeDue_nextNumber : (removeDue e s).nextNumber = s.nextNumber := rfl
@[simp] theorem removeDue_missed : (removeDue e s).missed = s.missed := rfl
@[simp] theorem removeDue_resendTimer : (removeDue e s).resendTimer = s.resendTimer := rfl

end removeDue

section removePipeEntries

variable (a : Nat) (s : State)

@[simp] theorem removePipeEntries_pending : (removePipeEntries a s).pending = s.pending := rfl
@[simp] theorem removePipeEntries_draws : (removePipeEntries a s).draws = s.draws := rfl
@[simp] theorem removePipeEntries_rstHigh : (removePipeEntries a s).rstHigh = s.rstHigh := rfl
@[simp] theorem removePipeEntries_cold : (removePipeEntries a s).cold = s.cold := rfl
@[simp] theorem removePipeEntries_rate1 : (removePipeEntries a s).rate1 = s.rate1 := rfl
@[simp] theorem removePipeEntries_rate0 : (removePipeEntries a s).rate0 = s.rate0 := rfl
@[simp] theorem removePipeEntries_hostRate : (removePipeEntries a s).hostRate = s.hostRate := rfl
@[simp] theorem removePipeEntries_lineDominant : (removePipeEntries a s).lineDominant = s.lineDominant := rfl
@[simp] theorem removePipeEntries_rx : (removePipeEntries a s).rx = s.rx := rfl
@[simp] theorem removePipeEntries_tx : (removePipeEntries a s).tx = s.tx := rfl
@[simp] theorem removePipeEntries_replyQueue : (removePipeEntries a s).replyQueue = s.replyQueue := rfl
@[simp] theorem removePipeEntries_counters : (removePipeEntries a s).counters = s.counters := rfl
@[simp] theorem removePipeEntries_window : (removePipeEntries a s).window = s.window := rfl
@[simp] theorem removePipeEntries_refusal : (removePipeEntries a s).refusal = s.refusal := rfl
@[simp] theorem removePipeEntries_recent : (removePipeEntries a s).recent = s.recent := rfl
@[simp] theorem removePipeEntries_loopSlot : (removePipeEntries a s).loopSlot = s.loopSlot := rfl
@[simp] theorem removePipeEntries_restartPending : (removePipeEntries a s).restartPending = s.restartPending := rfl
@[simp] theorem removePipeEntries_free : (removePipeEntries a s).free = s.free := rfl
@[simp] theorem removePipeEntries_catchSlot : (removePipeEntries a s).catchSlot = s.catchSlot := rfl
@[simp] theorem removePipeEntries_pipes : (removePipeEntries a s).pipes = s.pipes := rfl
@[simp] theorem removePipeEntries_nodes : (removePipeEntries a s).nodes = s.nodes := rfl
@[simp] theorem removePipeEntries_barred : (removePipeEntries a s).barred = s.barred := rfl
@[simp] theorem removePipeEntries_roundTimer : (removePipeEntries a s).roundTimer = s.roundTimer := rfl
@[simp] theorem removePipeEntries_recallCountdown : (removePipeEntries a s).recallCountdown = s.recallCountdown := rfl
@[simp] theorem removePipeEntries_engine : (removePipeEntries a s).engine = s.engine := rfl
@[simp] theorem removePipeEntries_txn : (removePipeEntries a s).txn = s.txn := rfl
@[simp] theorem removePipeEntries_loopTx : (removePipeEntries a s).loopTx = s.loopTx := rfl
@[simp] theorem removePipeEntries_sift : (removePipeEntries a s).sift = s.sift := rfl
@[simp] theorem removePipeEntries_loop : (removePipeEntries a s).loop = s.loop := rfl
@[simp] theorem removePipeEntries_drainTarget : (removePipeEntries a s).drainTarget = s.drainTarget := rfl
@[simp] theorem removePipeEntries_resume : (removePipeEntries a s).resume = s.resume := rfl
@[simp] theorem removePipeEntries_params : (removePipeEntries a s).params = s.params := rfl
@[simp] theorem removePipeEntries_phase : (removePipeEntries a s).phase = s.phase := rfl
@[simp] theorem removePipeEntries_domTimer : (removePipeEntries a s).domTimer = s.domTimer := rfl
@[simp] theorem removePipeEntries_notices : (removePipeEntries a s).notices = s.notices := rfl
@[simp] theorem removePipeEntries_nextNumber : (removePipeEntries a s).nextNumber = s.nextNumber := rfl
@[simp] theorem removePipeEntries_missed : (removePipeEntries a s).missed = s.missed := rfl
@[simp] theorem removePipeEntries_resendTimer : (removePipeEntries a s).resendTimer = s.resendTimer := rfl

end removePipeEntries

section setWindow

variable (tag : Byte) (w : WindowState) (s : State)

@[simp] theorem setWindow_pending : (setWindow tag w s).pending = s.pending := rfl
@[simp] theorem setWindow_draws : (setWindow tag w s).draws = s.draws := rfl
@[simp] theorem setWindow_rstHigh : (setWindow tag w s).rstHigh = s.rstHigh := rfl
@[simp] theorem setWindow_cold : (setWindow tag w s).cold = s.cold := rfl
@[simp] theorem setWindow_rate1 : (setWindow tag w s).rate1 = s.rate1 := rfl
@[simp] theorem setWindow_rate0 : (setWindow tag w s).rate0 = s.rate0 := rfl
@[simp] theorem setWindow_hostRate : (setWindow tag w s).hostRate = s.hostRate := rfl
@[simp] theorem setWindow_lineDominant : (setWindow tag w s).lineDominant = s.lineDominant := rfl
@[simp] theorem setWindow_rx : (setWindow tag w s).rx = s.rx := rfl
@[simp] theorem setWindow_tx : (setWindow tag w s).tx = s.tx := rfl
@[simp] theorem setWindow_replyQueue : (setWindow tag w s).replyQueue = s.replyQueue := rfl
@[simp] theorem setWindow_counters : (setWindow tag w s).counters = s.counters := rfl
@[simp] theorem setWindow_refusal : (setWindow tag w s).refusal = s.refusal := rfl
@[simp] theorem setWindow_recent : (setWindow tag w s).recent = s.recent := rfl
@[simp] theorem setWindow_loopSlot : (setWindow tag w s).loopSlot = s.loopSlot := rfl
@[simp] theorem setWindow_restartPending : (setWindow tag w s).restartPending = s.restartPending := rfl
@[simp] theorem setWindow_free : (setWindow tag w s).free = s.free := rfl
@[simp] theorem setWindow_catchSlot : (setWindow tag w s).catchSlot = s.catchSlot := rfl
@[simp] theorem setWindow_pipes : (setWindow tag w s).pipes = s.pipes := rfl
@[simp] theorem setWindow_nodes : (setWindow tag w s).nodes = s.nodes := rfl
@[simp] theorem setWindow_barred : (setWindow tag w s).barred = s.barred := rfl
@[simp] theorem setWindow_roundTimer : (setWindow tag w s).roundTimer = s.roundTimer := rfl
@[simp] theorem setWindow_recallCountdown : (setWindow tag w s).recallCountdown = s.recallCountdown := rfl
@[simp] theorem setWindow_due : (setWindow tag w s).due = s.due := rfl
@[simp] theorem setWindow_engine : (setWindow tag w s).engine = s.engine := rfl
@[simp] theorem setWindow_txn : (setWindow tag w s).txn = s.txn := rfl
@[simp] theorem setWindow_loopTx : (setWindow tag w s).loopTx = s.loopTx := rfl
@[simp] theorem setWindow_sift : (setWindow tag w s).sift = s.sift := rfl
@[simp] theorem setWindow_loop : (setWindow tag w s).loop = s.loop := rfl
@[simp] theorem setWindow_drainTarget : (setWindow tag w s).drainTarget = s.drainTarget := rfl
@[simp] theorem setWindow_resume : (setWindow tag w s).resume = s.resume := rfl
@[simp] theorem setWindow_params : (setWindow tag w s).params = s.params := rfl
@[simp] theorem setWindow_phase : (setWindow tag w s).phase = s.phase := rfl
@[simp] theorem setWindow_domTimer : (setWindow tag w s).domTimer = s.domTimer := rfl
@[simp] theorem setWindow_notices : (setWindow tag w s).notices = s.notices := rfl
@[simp] theorem setWindow_nextNumber : (setWindow tag w s).nextNumber = s.nextNumber := rfl
@[simp] theorem setWindow_missed : (setWindow tag w s).missed = s.missed := rfl
@[simp] theorem setWindow_resendTimer : (setWindow tag w s).resendTimer = s.resendTimer := rfl

end setWindow

section enqueueReply

variable (q : QueuedReply) (s : State)

@[simp] theorem enqueueReply_pending : (enqueueReply q s).pending = s.pending := rfl
@[simp] theorem enqueueReply_draws : (enqueueReply q s).draws = s.draws := rfl
@[simp] theorem enqueueReply_rstHigh : (enqueueReply q s).rstHigh = s.rstHigh := rfl
@[simp] theorem enqueueReply_cold : (enqueueReply q s).cold = s.cold := rfl
@[simp] theorem enqueueReply_rate1 : (enqueueReply q s).rate1 = s.rate1 := rfl
@[simp] theorem enqueueReply_rate0 : (enqueueReply q s).rate0 = s.rate0 := rfl
@[simp] theorem enqueueReply_hostRate : (enqueueReply q s).hostRate = s.hostRate := rfl
@[simp] theorem enqueueReply_lineDominant : (enqueueReply q s).lineDominant = s.lineDominant := rfl
@[simp] theorem enqueueReply_rx : (enqueueReply q s).rx = s.rx := rfl
@[simp] theorem enqueueReply_tx : (enqueueReply q s).tx = s.tx := rfl
@[simp] theorem enqueueReply_counters : (enqueueReply q s).counters = s.counters := rfl
@[simp] theorem enqueueReply_window : (enqueueReply q s).window = s.window := rfl
@[simp] theorem enqueueReply_refusal : (enqueueReply q s).refusal = s.refusal := rfl
@[simp] theorem enqueueReply_recent : (enqueueReply q s).recent = s.recent := rfl
@[simp] theorem enqueueReply_loopSlot : (enqueueReply q s).loopSlot = s.loopSlot := rfl
@[simp] theorem enqueueReply_restartPending : (enqueueReply q s).restartPending = s.restartPending := rfl
@[simp] theorem enqueueReply_free : (enqueueReply q s).free = s.free := rfl
@[simp] theorem enqueueReply_catchSlot : (enqueueReply q s).catchSlot = s.catchSlot := rfl
@[simp] theorem enqueueReply_pipes : (enqueueReply q s).pipes = s.pipes := rfl
@[simp] theorem enqueueReply_nodes : (enqueueReply q s).nodes = s.nodes := rfl
@[simp] theorem enqueueReply_barred : (enqueueReply q s).barred = s.barred := rfl
@[simp] theorem enqueueReply_roundTimer : (enqueueReply q s).roundTimer = s.roundTimer := rfl
@[simp] theorem enqueueReply_recallCountdown : (enqueueReply q s).recallCountdown = s.recallCountdown := rfl
@[simp] theorem enqueueReply_due : (enqueueReply q s).due = s.due := rfl
@[simp] theorem enqueueReply_engine : (enqueueReply q s).engine = s.engine := rfl
@[simp] theorem enqueueReply_txn : (enqueueReply q s).txn = s.txn := rfl
@[simp] theorem enqueueReply_loopTx : (enqueueReply q s).loopTx = s.loopTx := rfl
@[simp] theorem enqueueReply_sift : (enqueueReply q s).sift = s.sift := rfl
@[simp] theorem enqueueReply_loop : (enqueueReply q s).loop = s.loop := rfl
@[simp] theorem enqueueReply_drainTarget : (enqueueReply q s).drainTarget = s.drainTarget := rfl
@[simp] theorem enqueueReply_resume : (enqueueReply q s).resume = s.resume := rfl
@[simp] theorem enqueueReply_params : (enqueueReply q s).params = s.params := rfl
@[simp] theorem enqueueReply_phase : (enqueueReply q s).phase = s.phase := rfl
@[simp] theorem enqueueReply_domTimer : (enqueueReply q s).domTimer = s.domTimer := rfl
@[simp] theorem enqueueReply_notices : (enqueueReply q s).notices = s.notices := rfl
@[simp] theorem enqueueReply_nextNumber : (enqueueReply q s).nextNumber = s.nextNumber := rfl
@[simp] theorem enqueueReply_missed : (enqueueReply q s).missed = s.missed := rfl
@[simp] theorem enqueueReply_resendTimer : (enqueueReply q s).resendTimer = s.resendTimer := rfl

end enqueueReply

section startCall

variable (t : Transaction) (s : State)

@[simp] theorem startCall_pending : (startCall t s).pending = s.pending := rfl
@[simp] theorem startCall_draws : (startCall t s).draws = s.draws := rfl
@[simp] theorem startCall_rstHigh : (startCall t s).rstHigh = s.rstHigh := rfl
@[simp] theorem startCall_cold : (startCall t s).cold = s.cold := rfl
@[simp] theorem startCall_rate1 : (startCall t s).rate1 = s.rate1 := rfl
@[simp] theorem startCall_rate0 : (startCall t s).rate0 = s.rate0 := rfl
@[simp] theorem startCall_hostRate : (startCall t s).hostRate = s.hostRate := rfl
@[simp] theorem startCall_lineDominant : (startCall t s).lineDominant = s.lineDominant := rfl
@[simp] theorem startCall_rx : (startCall t s).rx = s.rx := rfl
@[simp] theorem startCall_tx : (startCall t s).tx = s.tx := rfl
@[simp] theorem startCall_replyQueue : (startCall t s).replyQueue = s.replyQueue := rfl
@[simp] theorem startCall_counters : (startCall t s).counters = s.counters := rfl
@[simp] theorem startCall_window : (startCall t s).window = s.window := rfl
@[simp] theorem startCall_refusal : (startCall t s).refusal = s.refusal := rfl
@[simp] theorem startCall_recent : (startCall t s).recent = s.recent := rfl
@[simp] theorem startCall_loopSlot : (startCall t s).loopSlot = s.loopSlot := rfl
@[simp] theorem startCall_restartPending : (startCall t s).restartPending = s.restartPending := rfl
@[simp] theorem startCall_free : (startCall t s).free = s.free := rfl
@[simp] theorem startCall_catchSlot : (startCall t s).catchSlot = s.catchSlot := rfl
@[simp] theorem startCall_pipes : (startCall t s).pipes = s.pipes := rfl
@[simp] theorem startCall_nodes : (startCall t s).nodes = s.nodes := rfl
@[simp] theorem startCall_barred : (startCall t s).barred = s.barred := rfl
@[simp] theorem startCall_roundTimer : (startCall t s).roundTimer = s.roundTimer := rfl
@[simp] theorem startCall_recallCountdown : (startCall t s).recallCountdown = s.recallCountdown := rfl
@[simp] theorem startCall_due : (startCall t s).due = s.due := rfl
@[simp] theorem startCall_sift : (startCall t s).sift = s.sift := rfl
@[simp] theorem startCall_loop : (startCall t s).loop = s.loop := rfl
@[simp] theorem startCall_drainTarget : (startCall t s).drainTarget = s.drainTarget := rfl
@[simp] theorem startCall_resume : (startCall t s).resume = s.resume := rfl
@[simp] theorem startCall_params : (startCall t s).params = s.params := rfl
@[simp] theorem startCall_phase : (startCall t s).phase = s.phase := rfl
@[simp] theorem startCall_domTimer : (startCall t s).domTimer = s.domTimer := rfl
@[simp] theorem startCall_notices : (startCall t s).notices = s.notices := rfl
@[simp] theorem startCall_nextNumber : (startCall t s).nextNumber = s.nextNumber := rfl
@[simp] theorem startCall_missed : (startCall t s).missed = s.missed := rfl
@[simp] theorem startCall_resendTimer : (startCall t s).resendTimer = s.resendTimer := rfl

end startCall

section txnOver

variable (s : State)

@[simp] theorem txnOver_pending : (txnOver s).pending = s.pending := rfl
@[simp] theorem txnOver_draws : (txnOver s).draws = s.draws := rfl
@[simp] theorem txnOver_rstHigh : (txnOver s).rstHigh = s.rstHigh := rfl
@[simp] theorem txnOver_cold : (txnOver s).cold = s.cold := rfl
@[simp] theorem txnOver_rate1 : (txnOver s).rate1 = s.rate1 := rfl
@[simp] theorem txnOver_rate0 : (txnOver s).rate0 = s.rate0 := rfl
@[simp] theorem txnOver_hostRate : (txnOver s).hostRate = s.hostRate := rfl
@[simp] theorem txnOver_lineDominant : (txnOver s).lineDominant = s.lineDominant := rfl
@[simp] theorem txnOver_rx : (txnOver s).rx = s.rx := rfl
@[simp] theorem txnOver_tx : (txnOver s).tx = s.tx := rfl
@[simp] theorem txnOver_replyQueue : (txnOver s).replyQueue = s.replyQueue := rfl
@[simp] theorem txnOver_counters : (txnOver s).counters = s.counters := rfl
@[simp] theorem txnOver_window : (txnOver s).window = s.window := rfl
@[simp] theorem txnOver_refusal : (txnOver s).refusal = s.refusal := rfl
@[simp] theorem txnOver_recent : (txnOver s).recent = s.recent := rfl
@[simp] theorem txnOver_loopSlot : (txnOver s).loopSlot = s.loopSlot := rfl
@[simp] theorem txnOver_restartPending : (txnOver s).restartPending = s.restartPending := rfl
@[simp] theorem txnOver_free : (txnOver s).free = s.free := rfl
@[simp] theorem txnOver_catchSlot : (txnOver s).catchSlot = s.catchSlot := rfl
@[simp] theorem txnOver_pipes : (txnOver s).pipes = s.pipes := rfl
@[simp] theorem txnOver_nodes : (txnOver s).nodes = s.nodes := rfl
@[simp] theorem txnOver_barred : (txnOver s).barred = s.barred := rfl
@[simp] theorem txnOver_roundTimer : (txnOver s).roundTimer = s.roundTimer := rfl
@[simp] theorem txnOver_recallCountdown : (txnOver s).recallCountdown = s.recallCountdown := rfl
@[simp] theorem txnOver_due : (txnOver s).due = s.due := rfl
@[simp] theorem txnOver_sift : (txnOver s).sift = s.sift := rfl
@[simp] theorem txnOver_loop : (txnOver s).loop = s.loop := rfl
@[simp] theorem txnOver_drainTarget : (txnOver s).drainTarget = s.drainTarget := rfl
@[simp] theorem txnOver_resume : (txnOver s).resume = s.resume := rfl
@[simp] theorem txnOver_params : (txnOver s).params = s.params := rfl
@[simp] theorem txnOver_phase : (txnOver s).phase = s.phase := rfl
@[simp] theorem txnOver_domTimer : (txnOver s).domTimer = s.domTimer := rfl
@[simp] theorem txnOver_notices : (txnOver s).notices = s.notices := rfl
@[simp] theorem txnOver_nextNumber : (txnOver s).nextNumber = s.nextNumber := rfl
@[simp] theorem txnOver_missed : (txnOver s).missed = s.missed := rfl
@[simp] theorem txnOver_resendTimer : (txnOver s).resendTimer = s.resendTimer := rfl

end txnOver

section notify

variable (b : NoticeBody) (s : State)

@[simp] theorem notify_pending : (notify b s).pending = s.pending := by unfold notify; split <;> rfl
@[simp] theorem notify_draws : (notify b s).draws = s.draws := by unfold notify; split <;> rfl
@[simp] theorem notify_rstHigh : (notify b s).rstHigh = s.rstHigh := by unfold notify; split <;> rfl
@[simp] theorem notify_cold : (notify b s).cold = s.cold := by unfold notify; split <;> rfl
@[simp] theorem notify_rate1 : (notify b s).rate1 = s.rate1 := by unfold notify; split <;> rfl
@[simp] theorem notify_rate0 : (notify b s).rate0 = s.rate0 := by unfold notify; split <;> rfl
@[simp] theorem notify_hostRate : (notify b s).hostRate = s.hostRate := by unfold notify; split <;> rfl
@[simp] theorem notify_lineDominant : (notify b s).lineDominant = s.lineDominant := by unfold notify; split <;> rfl
@[simp] theorem notify_rx : (notify b s).rx = s.rx := by unfold notify; split <;> rfl
@[simp] theorem notify_tx : (notify b s).tx = s.tx := by unfold notify; split <;> rfl
@[simp] theorem notify_replyQueue : (notify b s).replyQueue = s.replyQueue := by unfold notify; split <;> rfl
@[simp] theorem notify_counters : (notify b s).counters = s.counters := by unfold notify; split <;> rfl
@[simp] theorem notify_window : (notify b s).window = s.window := by unfold notify; split <;> rfl
@[simp] theorem notify_refusal : (notify b s).refusal = s.refusal := by unfold notify; split <;> rfl
@[simp] theorem notify_recent : (notify b s).recent = s.recent := by unfold notify; split <;> rfl
@[simp] theorem notify_loopSlot : (notify b s).loopSlot = s.loopSlot := by unfold notify; split <;> rfl
@[simp] theorem notify_restartPending : (notify b s).restartPending = s.restartPending := by unfold notify; split <;> rfl
@[simp] theorem notify_free : (notify b s).free = s.free := by unfold notify; split <;> rfl
@[simp] theorem notify_catchSlot : (notify b s).catchSlot = s.catchSlot := by unfold notify; split <;> rfl
@[simp] theorem notify_pipes : (notify b s).pipes = s.pipes := by unfold notify; split <;> rfl
@[simp] theorem notify_nodes : (notify b s).nodes = s.nodes := by unfold notify; split <;> rfl
@[simp] theorem notify_barred : (notify b s).barred = s.barred := by unfold notify; split <;> rfl
@[simp] theorem notify_roundTimer : (notify b s).roundTimer = s.roundTimer := by unfold notify; split <;> rfl
@[simp] theorem notify_recallCountdown : (notify b s).recallCountdown = s.recallCountdown := by unfold notify; split <;> rfl
@[simp] theorem notify_due : (notify b s).due = s.due := by unfold notify; split <;> rfl
@[simp] theorem notify_engine : (notify b s).engine = s.engine := by unfold notify; split <;> rfl
@[simp] theorem notify_txn : (notify b s).txn = s.txn := by unfold notify; split <;> rfl
@[simp] theorem notify_loopTx : (notify b s).loopTx = s.loopTx := by unfold notify; split <;> rfl
@[simp] theorem notify_sift : (notify b s).sift = s.sift := by unfold notify; split <;> rfl
@[simp] theorem notify_loop : (notify b s).loop = s.loop := by unfold notify; split <;> rfl
@[simp] theorem notify_drainTarget : (notify b s).drainTarget = s.drainTarget := by unfold notify; split <;> rfl
@[simp] theorem notify_resume : (notify b s).resume = s.resume := by unfold notify; split <;> rfl
@[simp] theorem notify_params : (notify b s).params = s.params := by unfold notify; split <;> rfl
@[simp] theorem notify_phase : (notify b s).phase = s.phase := by unfold notify; split <;> rfl
@[simp] theorem notify_domTimer : (notify b s).domTimer = s.domTimer := by unfold notify; split <;> rfl
@[simp] theorem notify_resendTimer : (notify b s).resendTimer = s.resendTimer := by unfold notify; split <;> rfl

end notify

section appendDue

variable (e : DueEntry) (s : State)

@[simp] theorem appendDue_pending : (appendDue e s).pending = s.pending := by unfold appendDue; split <;> rfl
@[simp] theorem appendDue_draws : (appendDue e s).draws = s.draws := by unfold appendDue; split <;> rfl
@[simp] theorem appendDue_rstHigh : (appendDue e s).rstHigh = s.rstHigh := by unfold appendDue; split <;> rfl
@[simp] theorem appendDue_cold : (appendDue e s).cold = s.cold := by unfold appendDue; split <;> rfl
@[simp] theorem appendDue_rate1 : (appendDue e s).rate1 = s.rate1 := by unfold appendDue; split <;> rfl
@[simp] theorem appendDue_rate0 : (appendDue e s).rate0 = s.rate0 := by unfold appendDue; split <;> rfl
@[simp] theorem appendDue_hostRate : (appendDue e s).hostRate = s.hostRate := by unfold appendDue; split <;> rfl
@[simp] theorem appendDue_lineDominant : (appendDue e s).lineDominant = s.lineDominant := by unfold appendDue; split <;> rfl
@[simp] theorem appendDue_rx : (appendDue e s).rx = s.rx := by unfold appendDue; split <;> rfl
@[simp] theorem appendDue_tx : (appendDue e s).tx = s.tx := by unfold appendDue; split <;> rfl
@[simp] theorem appendDue_replyQueue : (appendDue e s).replyQueue = s.replyQueue := by unfold appendDue; split <;> rfl
@[simp] theorem appendDue_counters : (appendDue e s).counters = s.counters := by unfold appendDue; split <;> rfl
@[simp] theorem appendDue_window : (appendDue e s).window = s.window := by unfold appendDue; split <;> rfl
@[simp] theorem appendDue_refusal : (appendDue e s).refusal = s.refusal := by unfold appendDue; split <;> rfl
@[simp] theorem appendDue_recent : (appendDue e s).recent = s.recent := by unfold appendDue; split <;> rfl
@[simp] theorem appendDue_loopSlot : (appendDue e s).loopSlot = s.loopSlot := by unfold appendDue; split <;> rfl
@[simp] theorem appendDue_restartPending : (appendDue e s).restartPending = s.restartPending := by unfold appendDue; split <;> rfl
@[simp] theorem appendDue_free : (appendDue e s).free = s.free := by unfold appendDue; split <;> rfl
@[simp] theorem appendDue_catchSlot : (appendDue e s).catchSlot = s.catchSlot := by unfold appendDue; split <;> rfl
@[simp] theorem appendDue_pipes : (appendDue e s).pipes = s.pipes := by unfold appendDue; split <;> rfl
@[simp] theorem appendDue_nodes : (appendDue e s).nodes = s.nodes := by unfold appendDue; split <;> rfl
@[simp] theorem appendDue_barred : (appendDue e s).barred = s.barred := by unfold appendDue; split <;> rfl
@[simp] theorem appendDue_roundTimer : (appendDue e s).roundTimer = s.roundTimer := by unfold appendDue; split <;> rfl
@[simp] theorem appendDue_recallCountdown : (appendDue e s).recallCountdown = s.recallCountdown := by unfold appendDue; split <;> rfl
@[simp] theorem appendDue_engine : (appendDue e s).engine = s.engine := by unfold appendDue; split <;> rfl
@[simp] theorem appendDue_txn : (appendDue e s).txn = s.txn := by unfold appendDue; split <;> rfl
@[simp] theorem appendDue_loopTx : (appendDue e s).loopTx = s.loopTx := by unfold appendDue; split <;> rfl
@[simp] theorem appendDue_sift : (appendDue e s).sift = s.sift := by unfold appendDue; split <;> rfl
@[simp] theorem appendDue_loop : (appendDue e s).loop = s.loop := by unfold appendDue; split <;> rfl
@[simp] theorem appendDue_drainTarget : (appendDue e s).drainTarget = s.drainTarget := by unfold appendDue; split <;> rfl
@[simp] theorem appendDue_resume : (appendDue e s).resume = s.resume := by unfold appendDue; split <;> rfl
@[simp] theorem appendDue_params : (appendDue e s).params = s.params := by unfold appendDue; split <;> rfl
@[simp] theorem appendDue_phase : (appendDue e s).phase = s.phase := by unfold appendDue; split <;> rfl
@[simp] theorem appendDue_domTimer : (appendDue e s).domTimer = s.domTimer := by unfold appendDue; split <;> rfl
@[simp] theorem appendDue_notices : (appendDue e s).notices = s.notices := by unfold appendDue; split <;> rfl
@[simp] theorem appendDue_nextNumber : (appendDue e s).nextNumber = s.nextNumber := by unfold appendDue; split <;> rfl
@[simp] theorem appendDue_missed : (appendDue e s).missed = s.missed := by unfold appendDue; split <;> rfl
@[simp] theorem appendDue_resendTimer : (appendDue e s).resendTimer = s.resendTimer := by unfold appendDue; split <;> rfl

end appendDue

section barAddress

variable (a : Nat) (s : State)

@[simp] theorem barAddress_pending : (barAddress a s).pending = s.pending := by unfold barAddress; split <;> rfl
@[simp] theorem barAddress_draws : (barAddress a s).draws = s.draws := by unfold barAddress; split <;> rfl
@[simp] theorem barAddress_rstHigh : (barAddress a s).rstHigh = s.rstHigh := by unfold barAddress; split <;> rfl
@[simp] theorem barAddress_cold : (barAddress a s).cold = s.cold := by unfold barAddress; split <;> rfl
@[simp] theorem barAddress_rate1 : (barAddress a s).rate1 = s.rate1 := by unfold barAddress; split <;> rfl
@[simp] theorem barAddress_rate0 : (barAddress a s).rate0 = s.rate0 := by unfold barAddress; split <;> rfl
@[simp] theorem barAddress_hostRate : (barAddress a s).hostRate = s.hostRate := by unfold barAddress; split <;> rfl
@[simp] theorem barAddress_lineDominant : (barAddress a s).lineDominant = s.lineDominant := by unfold barAddress; split <;> rfl
@[simp] theorem barAddress_rx : (barAddress a s).rx = s.rx := by unfold barAddress; split <;> rfl
@[simp] theorem barAddress_tx : (barAddress a s).tx = s.tx := by unfold barAddress; split <;> rfl
@[simp] theorem barAddress_replyQueue : (barAddress a s).replyQueue = s.replyQueue := by unfold barAddress; split <;> rfl
@[simp] theorem barAddress_counters : (barAddress a s).counters = s.counters := by unfold barAddress; split <;> rfl
@[simp] theorem barAddress_window : (barAddress a s).window = s.window := by unfold barAddress; split <;> rfl
@[simp] theorem barAddress_refusal : (barAddress a s).refusal = s.refusal := by unfold barAddress; split <;> rfl
@[simp] theorem barAddress_recent : (barAddress a s).recent = s.recent := by unfold barAddress; split <;> rfl
@[simp] theorem barAddress_loopSlot : (barAddress a s).loopSlot = s.loopSlot := by unfold barAddress; split <;> rfl
@[simp] theorem barAddress_restartPending : (barAddress a s).restartPending = s.restartPending := by unfold barAddress; split <;> rfl
@[simp] theorem barAddress_free : (barAddress a s).free = s.free := by unfold barAddress; split <;> rfl
@[simp] theorem barAddress_catchSlot : (barAddress a s).catchSlot = s.catchSlot := by unfold barAddress; split <;> rfl
@[simp] theorem barAddress_pipes : (barAddress a s).pipes = s.pipes := by unfold barAddress; split <;> rfl
@[simp] theorem barAddress_nodes : (barAddress a s).nodes = s.nodes := by unfold barAddress; split <;> rfl
@[simp] theorem barAddress_roundTimer : (barAddress a s).roundTimer = s.roundTimer := by unfold barAddress; split <;> rfl
@[simp] theorem barAddress_recallCountdown : (barAddress a s).recallCountdown = s.recallCountdown := by unfold barAddress; split <;> rfl
@[simp] theorem barAddress_due : (barAddress a s).due = s.due := by unfold barAddress; split <;> rfl
@[simp] theorem barAddress_engine : (barAddress a s).engine = s.engine := by unfold barAddress; split <;> rfl
@[simp] theorem barAddress_txn : (barAddress a s).txn = s.txn := by unfold barAddress; split <;> rfl
@[simp] theorem barAddress_loopTx : (barAddress a s).loopTx = s.loopTx := by unfold barAddress; split <;> rfl
@[simp] theorem barAddress_sift : (barAddress a s).sift = s.sift := by unfold barAddress; split <;> rfl
@[simp] theorem barAddress_loop : (barAddress a s).loop = s.loop := by unfold barAddress; split <;> rfl
@[simp] theorem barAddress_drainTarget : (barAddress a s).drainTarget = s.drainTarget := by unfold barAddress; split <;> rfl
@[simp] theorem barAddress_resume : (barAddress a s).resume = s.resume := by unfold barAddress; split <;> rfl
@[simp] theorem barAddress_params : (barAddress a s).params = s.params := by unfold barAddress; split <;> rfl
@[simp] theorem barAddress_phase : (barAddress a s).phase = s.phase := by unfold barAddress; split <;> rfl
@[simp] theorem barAddress_domTimer : (barAddress a s).domTimer = s.domTimer := by unfold barAddress; split <;> rfl
@[simp] theorem barAddress_notices : (barAddress a s).notices = s.notices := by unfold barAddress; split <;> rfl
@[simp] theorem barAddress_nextNumber : (barAddress a s).nextNumber = s.nextNumber := by unfold barAddress; split <;> rfl
@[simp] theorem barAddress_missed : (barAddress a s).missed = s.missed := by unfold barAddress; split <;> rfl
@[simp] theorem barAddress_resendTimer : (barAddress a s).resendTimer = s.resendTimer := by unfold barAddress; split <;> rfl

end barAddress

end Sys2Proof.Machine
end

