-- ==== Sys2Proof/Laws/HostPort.lean ====
section
/-! SUPPORT. Lemmas about the Host Port: the frame receiver takes a whole frame to admission, admission takes a new
request to dispatch, and an owner's answer or deferral leaves the state that `answered` or `deferred` names. -/

namespace Sys2Proof.Machine

/-! ## The transmitter -/

/-- R146: a transmitter that has chosen has nothing more to choose. -/
theorem kickTx_kickTx (s : State) : kickTx (kickTx s) = kickTx s := by
  have busy : ∀ (u : State) (f : TxFrame), u.tx = some f → kickTx u = u := fun u f h => by rw [kickTx, h]
  have h : (kickTx s).tx = none → kickTx s = s := by
    unfold kickTx chooseFrame
    split
    · exact fun _ => rfl
    split
    · nofun
    split
    · nofun
    split
    · nofun
    · exact fun _ => rfl
  cases ht : (kickTx s).tx with
  | none => rw [h ht, h ht]
  | some f => exact busy _ f ht

/-! ## The frame receiver -/

/-- No byte is left to take. -/
theorem rxBytes_nil (n : Nat) (s : State) : rxBytes n [] s = s := by cases n <;> rfl

/-- One byte is taken; what it makes the receiver rescan comes first. -/
theorem rxBytes_cons (n : Nat) (b : Byte) (bs : List Byte) (s : State) :
    rxBytes (n + 1) (b :: bs) s = rxBytes n ((rxByte b s).2 ++ bs) (rxByte b s).1 := rfl

/-- R137: a byte taken in HUNT that is the SYNC. -/
theorem rxByte_sync {s : State} (h : s.rx.state = .hunt) :
    rxByte Config.sync s = (storeByte .length [Config.sync] s, []) := by
  simp [rxByte, h]

/-- R137: a LEN from 2 to 224 is stored and the body follows. -/
theorem rxByte_len {s : State} {b : Byte} (h : s.rx.state = .length)
    (hb : Config.minBody ≤ b.toNat ∧ b.toNat ≤ Config.maxBody) :
    rxByte b s = (storeByte .body (s.rx.stored ++ [b]) s, []) := by
  simp only [rxByte, h]; rw [if_pos hb]

/-- R137: the LEN byte stands once two bytes are stored. -/
theorem storedLen_append (st bs : List Byte) (h : 2 ≤ st.length) : storedLen (st ++ bs) = storedLen st := by
  unfold storedLen
  congr 1
  simp only [List.getD_eq_getElem?_getD]
  rw [List.getElem?_append_left (by omega)]

/-- R137: bytes taken in BODY, up to and with the last body byte. -/
theorem rxBytes_body (bs tail : List Byte) (n : Nat) (s : State)
    (h : s.rx.state = .body) (h2 : 2 ≤ s.rx.stored.length)
    (hlen : s.rx.stored.length + bs.length = 2 + storedLen s.rx.stored) (hne : bs ≠ []) :
    rxBytes (n + bs.length) (bs ++ tail) s = rxBytes n tail (storeByte .crc (s.rx.stored ++ bs) s) := by
  induction bs generalizing s with
  | nil => exact absurd rfl hne
  | cons b bs ih =>
    have hsl := storedLen_append s.rx.stored [b] h2
    rw [List.cons_append, List.length_cons, ← Nat.add_assoc, rxBytes_cons]
    simp only [rxByte, h, List.nil_append, List.length_append, List.length_cons, List.length_nil, hsl]
    simp only [List.length_cons] at hlen
    by_cases hb : bs = []
    · subst hb
      simp only [List.length_nil] at hlen ⊢
      rw [if_neg (by omega)]
      rfl
    · have : 0 < bs.length := List.length_pos_of_ne_nil hb
      rw [if_pos (by omega), ih]
      · simp [storeByte]
      · rfl
      · simp only [storeByte, List.length_append, List.length_cons]; omega
      · simp only [storeByte, List.length_append, List.length_cons, List.length_nil, hsl]; omega
      · exact hb

/-- A check is two bytes. -/
theorem bytesOfCheck_length (c : Check) : (bytesOfCheck c).length = 2 := rfl

/-- R138: the stored bytes of a whole host frame: its LEN, its body, its check. -/
theorem storedLen_frame (body : List Byte) (h : body.length ≤ 224) (rest : List Byte) :
    storedLen (Config.sync :: byteOf body.length :: rest) = body.length := by
  show (byteOf body.length).toNat = body.length
  simp only [byteOf, BitVec.toNat_ofNat]
  omega

/-- R137, R138, R146: a whole frame taken in HUNT is handed to admission, and the transmitter then chooses; the bytes
behind it follow. -/
theorem rxBytes_hostFrame (body tail : List Byte) (n : Nat) (s : State) (h : s.rx.state = .hunt)
    (h2 : Config.minBody ≤ body.length) (h224 : body.length ≤ Config.maxBody) :
    rxBytes (n + (hostFrame body).length) (hostFrame body ++ tail) s =
      rxBytes n tail (kickTx (admitBody body (crcOf (byteOf body.length :: body)) { s with rx := huntRx })) := by
  simp only [Config.minBody, Config.maxBody] at h2 h224
  have hlen : (byteOf body.length).toNat = body.length := by
    simp only [byteOf, BitVec.toNat_ofNat]; omega
  obtain ⟨c0, c1, hc⟩ : ∃ c0 c1, bytesOfCheck (crcOf (byteOf body.length :: body)) = [c0, c1] := ⟨_, _, rfl⟩
  have hL : (hostFrame body).length = body.length + 4 := by
    simp [hostFrame, bytesOfCheck_length]
  have hF : hostFrame body ++ tail = Config.sync :: byteOf body.length :: (body ++ (c0 :: c1 :: tail)) := by
    simp [hostFrame, hc]
  rw [hL, hF, show n + (body.length + 4) = (n + 2 + body.length) + 1 + 1 by omega, rxBytes_cons, rxByte_sync h]
  rw [List.nil_append, rxBytes_cons, rxByte_len (by rfl) (by simp only [hlen, Config.minBody, Config.maxBody]; omega), List.nil_append]
  have hsl := storedLen_frame body h224
  rw [rxBytes_body body (c0 :: c1 :: tail) (n + 2)]
  · have hne : 0 < body.length := by omega
    rw [show n + 2 = n + 1 + 1 by omega, rxBytes_cons]
    simp only [rxByte, storeByte, List.cons_append, List.nil_append, List.length_cons, List.length_append, hsl,
      List.length_nil]
    rw [if_pos (by omega), List.nil_append, rxBytes_cons]
    simp only [rxByte, List.cons_append, List.length_cons, List.length_append, hsl,
      List.length_nil]
    rw [if_neg (by omega)]
    have hb : storedBody (Config.sync :: byteOf body.length :: (body ++ [c0] ++ [c1])) = body := by
      unfold storedBody
      rw [hsl]
      simp
    have hck : storedCheck (Config.sync :: byteOf body.length :: (body ++ [c0] ++ [c1])) =
        crcOf (byteOf body.length :: body) := by
      unfold storedCheck
      rw [hb]
      rfl
    have hag : checkAgrees (Config.sync :: byteOf body.length :: (body ++ [c0] ++ [c1])) = true := by
      unfold checkAgrees
      rw [hck, hc, hsl, show 2 + body.length = body.length + 1 + 1 by omega]
      simp
    simp only [finishFrame, hag, if_true, hb, hck, List.nil_append]
  · rfl
  · simp [storeByte]
  · show 2 + body.length = _
    simp only [storeByte]
    rw [List.cons_append, List.nil_append, hsl]
  · intro h0; rw [h0] at h2; simp at h2

/-- R137, R138, R146: a whole frame that arrives in HUNT is handed to admission, and the transmitter then chooses. -/
theorem receive_hostFrame (body : List Byte) (s : State) (h : s.rx.state = .hunt)
    (h2 : Config.minBody ≤ body.length) (h224 : body.length ≤ Config.maxBody) :
    receive (hostFrame body) s = kickTx (admitBody body (crcOf (byteOf body.length :: body)) { s with rx := huntRx }) := by
  have key : ∀ k L : Nat, ∃ n, (k + L + 1) * (k + L + 1) = n + L := fun k L =>
    ⟨(k + L + 1) * (k + L + 1) - L, by nlinarith [Nat.sub_add_cancel (show L ≤ (k + L + 1) * (k + L + 1) by nlinarith)]⟩
  obtain ⟨n, hn⟩ := key s.rx.stored.length (hostFrame body).length
  have := rxBytes_hostFrame body [] n s h h2 h224
  rw [List.append_nil, rxBytes_nil] at this
  rw [receive, rxFuel, hn, this]

/-! ## Requests -/

/-- The meaning of a host command is the arrival of its request's frame. -/
theorem exec_of_requestOf {c : Instr} {kind tag : Byte} {fields : List Byte} (h : requestOf c = some (kind, tag, fields))
    (s : State) : exec c s = hostRequest kind tag fields s := by
  cases c <;> simp only [requestOf, Option.some.injEq, Prod.mk.injEq, reduceCtorEq] at h <;>
    obtain ⟨rfl, rfl, rfl⟩ := h <;> rfl

/-- R137, R138, R169: the frame of a request that arrives in HUNT is handed to admission, and the transmitter then
chooses. -/
theorem receive_requestFrame (kind tag : Byte) (fields : List Byte) (s : State) (h : s.rx.state = .hunt)
    (hf : fieldsFit fields = true) :
    receive (requestFrame kind tag fields) s =
      kickTx (admitRequest kind tag (requestCheck kind tag fields) fields { s with rx := huntRx }) := by
  have hl : fields.length + 2 ≤ Config.maxBody := by simpa [fieldsFit] using hf
  exact receive_hostFrame (kind :: tag :: fields) s h (Nat.le_add_left 2 fields.length) hl

/-- R137 to R140, R169: a request command hands its request to admission, and the transmitter then chooses. -/
theorem exec_admits {c : Instr} {kind tag : Byte} {fields : List Byte} {s : State}
    (hc : requestOf c = some (kind, tag, fields)) (hf : fieldsFit fields = true) (h : Listening s) :
    exec c s =
      .next (kickTx (admitRequest kind tag (requestCheck kind tag fields) fields { s with rx := huntRx })) := by
  rw [exec_of_requestOf hc, hostRequest, live, if_pos h.1, receive_requestFrame _ _ _ _ h.2 hf, kickTx_kickTx]

/-- R139, R142: the state in which a new request has been taken and is being executed. -/
def taken (kind tag : Byte) (fields : List Byte) (s : State) : State :=
  { s with
    rx := huntRx
    window := s.window ++ [⟨tag, kind, requestCheck kind tag fields, ownerOf kind, .executing⟩] }

/-- R140 case 7: a new request goes to dispatch. -/
theorem admitRequest_accepts {kind tag : Byte} {fields : List Byte} {s : State} (h : Accepts tag s)
    (hr : ¬(kind = kindRestart ∧ fields = [])) :
    admitRequest kind tag (requestCheck kind tag fields) fields { s with rx := huntRx } =
      dispatch kind tag fields (taken kind tag fields s) := by
  obtain ⟨_, hp, hw, hl, he⟩ := h
  have h1 : s.window.any (fun w => w.tag == tag) = false := by simpa using hw
  have h2 : s.recent.find? (fun e => e.tag == tag) = none := by simpa using he
  have h3 : ¬ Config.windowSize ≤ s.window.length := by omega
  unfold admitRequest
  rw [if_neg (by simp [hp]), if_neg hr, if_neg (by simp [h1]), if_neg h3]
  simp only [h2]
  rfl

/-- R137 to R142: a new request of any kind but RESTART reaches dispatch, and the transmitter then chooses. -/
theorem exec_request {c : Instr} {kind tag : Byte} {fields : List Byte} {s : State}
    (hc : requestOf c = some (kind, tag, fields)) (hf : fieldsFit fields = true) (h : Accepts tag s)
    (hr : ¬(kind = kindRestart ∧ fields = [])) :
    exec c s = .next (kickTx (dispatch kind tag fields (taken kind tag fields s))) := by
  rw [exec_admits hc hf h.1, admitRequest_accepts h hr]

/-- Updating the one record that bears a key, behind records that do not. -/
theorem updFirst_append {α : Type} {hit : α → Bool} {f : α → α} {xs : List α} {y : α} {ys : List α}
    (hx : ∀ x ∈ xs, hit x = false) (hy : hit y = true) :
    updFirst hit f (xs ++ y :: ys) = xs ++ f y :: ys := by
  induction xs with
  | nil => simp [updFirst, hy]
  | cons x xs ih =>
    simp only [List.cons_append, updFirst, hx x (List.mem_cons_self ..)]
    rw [if_neg (by simp), ih (fun z hz => hx z (List.mem_cons_of_mem _ hz))]

/-- The first record that bears a key, behind records that do not. -/
theorem find_append {α : Type} {hit : α → Bool} {xs : List α} {y : α} {ys : List α}
    (hx : ∀ x ∈ xs, hit x = false) (hy : hit y = true) : (xs ++ y :: ys).find? hit = some y := by
  rw [List.find?_append, List.find?_eq_none.2 (by simpa using hx)]
  simp [hy]

/-- R9, R143: recording a reply pushes the oldest entry out of a full table and frees its blocks. -/
theorem recordReply_eq (e : RecentEntry) (s : State) :
    recordReply e s =
      { s with recent := keptEntries s ++ [e], free := s.free ++ (pushedOut s).map Block.release } := by
  cases s
  rename_i recent _ _ _ _ _ _ _ _ _ _ _ _ _ _ _ _ _ _ _ _ _ _ _ _
  cases recent with
  | nil => simp [recordReply, evictOldest, keptEntries, pushedOut]
  | cons x xs =>
    by_cases hl : 8 ≤ xs.length + 1 <;> simp [recordReply, evictOldest, keptEntries, pushedOut, freeBlocks, hl]

/-- R142: what composing a reply does, for the window entry that bears the tag. -/
theorem composeReply_eq {s : State} {older newer : List WindowEntry} {w : WindowEntry} {tag : Byte}
    (hw : s.window = older ++ w :: newer) (ho : ∀ x ∈ older, x.tag ≠ tag) (ht : w.tag = tag)
    (code : Code) (reply : ReplyFields) (retained : List Block) :
    composeReply tag code reply retained s = { s with
      window := older ++ { w with state := .replyQueued } :: newer
      recent := keptEntries s ++ [⟨tag, w.kind, w.crc, ⟨replyKind w.kind, tag, code, reply⟩, retained, false⟩]
      free := s.free ++ (pushedOut s).map Block.release
      replyQueue := s.replyQueue ++ [⟨⟨replyKind w.kind, tag, code, reply⟩, false, false⟩] } := by
  have h1 : s.window.find? (fun e => e.tag == tag) = some w := by
    rw [hw]; exact find_append (by simpa using ho) (by simpa using ht)
  have h2 : updFirst (fun e : WindowEntry => e.tag == tag) (fun e => { e with state := .replyQueued }) s.window =
      older ++ { w with state := .replyQueued } :: newer := by
    rw [hw]; exact updFirst_append (by simpa using ho) (by simpa using ht)
  unfold composeReply
  rw [h1]
  simp only [recordReply_eq, setWindow, enqueueReply, h2]

/-- R142: an owner's answer to the request being executed. -/
theorem composeReply_taken {kind tag : Byte} {fields : List Byte} {s : State} (h : ∀ w ∈ s.window, w.tag ≠ tag)
    (code : Code) (reply : ReplyFields) (retained : List Block) :
    composeReply tag code reply retained (taken kind tag fields s) =
      answered kind tag fields code reply retained s := by
  rw [composeReply_eq (older := s.window) (newer := []) (w := ⟨tag, kind, requestCheck kind tag fields, ownerOf kind, .executing⟩)
    rfl h rfl]
  rfl

/-- R142: an owner's answer without blocks to the request being executed. -/
theorem answer_taken {kind tag : Byte} {fields : List Byte} {s : State} (h : ∀ w ∈ s.window, w.tag ≠ tag)
    (code : Code) (reply : ReplyFields) :
    answer tag code reply (taken kind tag fields s) = answered kind tag fields code reply [] s :=
  composeReply_taken h code reply []

/-- R139: an owner defers the reply to the request being executed. -/
theorem deferReply_taken {kind tag : Byte} {fields : List Byte} {s : State} (h : ∀ w ∈ s.window, w.tag ≠ tag)
    (on : Waits) : deferReply tag on (taken kind tag fields s) = deferred kind tag fields on s := by
  have h2 := updFirst_append (f := fun e : WindowEntry => { e with state := .deferred on }) (hit := fun e => e.tag == tag)
    (xs := s.window) (y := ⟨tag, kind, requestCheck kind tag fields, ownerOf kind, .executing⟩) (ys := [])
    (by simpa using h) (beq_self_eq_true tag)
  simp only [deferReply, setWindow, taken, h2, deferred]

end Sys2Proof.Machine
end

