-- ==== Sys2Proof/Laws/LoopAnswers.lean ====
section
/-! SUPPORT. Lemmas about a node's answer: its frame is read back whole, its identity is read back, and what the engine
does with it in the reply window. -/

namespace Sys2Proof.Machine

/-- R61, R173: a node's frame with its check is read back as it was sent. -/
theorem readLoop_nodeFrame (type addr pipeSeq : Byte) (payload : List Byte) (h : payload.length ≤ Config.blockPayload) :
    readLoop (nodeFrame type addr pipeSeq payload) = some ⟨type, addr, pipeSeq, payload⟩ := by
  simp only [Config.blockPayload] at h
  have hl : (byteOf payload.length).toNat = payload.length := by
    simp only [byteOf, BitVec.toNat_ofNat]; omega
  simp only [nodeFrame, encodeLoop, loopCovered, readLoop, List.cons_append, hl, List.take_left, List.drop_left]
  have hc : ∀ c : Check, (bytesOfCheck c).length = 2 := fun _ => rfl
  rw [if_neg (by simp [faultWithin, hc]; omega), if_pos (by simp [bytesOfCheck, bytesOf16])]

/-- R166: an identity's four bytes are read back as the identity. -/
theorem payloadIdent_bytesOfIdent (i : Ident) : payloadIdent (bytesOfIdent i) = some i := by
  have h := i.isLt
  simp only [payloadIdent, bytesOfIdent, identOf, Option.some.injEq]
  apply BitVec.eq_of_toNat_eq
  simp only [BitVec.extractLsb'_toNat, BitVec.toNat_ofNat, Nat.shiftRight_eq_div_pow]
  omega

/-- R61, R65: a frame heard in the reply window that is a VALID answer is settled at its last byte. -/
theorem nodeAnswer_valid {t : Transaction} {s : State} (h : Hearing t s) {type addr pipeSeq : Byte}
    {payload : List Byte} (hp : payload.length ≤ Config.blockPayload) {v : ValidAnswer}
    (hv : classify t ⟨type, addr, pipeSeq, payload⟩ = some v) :
    nodeAnswer type addr pipeSeq payload s = .next (kickTx (settleValid t v s)) := by
  obtain ⟨hr, he, ht, hh⟩ := h
  simp only [nodeAnswer, live, hr, if_true, hearFrame, he, ht, validAnswer, hh, if_false,
    readLoop_nodeFrame _ _ _ _ hp, Option.bind_some, hv]

/-- R61, R69: what a node's whole frame writes in a catch block. -/
theorem storedPayload_nodeFrame (type addr pipeSeq : Byte) (payload : List Byte)
    (h : payload.length ≤ Config.blockPayload) :
    storedPayload (nodeFrame type addr pipeSeq payload).bytes = if type = typeData then payload else [] := by
  simp only [Config.blockPayload] at h
  have hl : (byteOf payload.length).toNat = payload.length := by
    simp only [byteOf, BitVec.toNat_ofNat]; omega
  simp only [nodeFrame, encodeLoop, loopCovered, storedPayload, List.cons_append, hl, h, and_true,
    List.take_left]

/-- R7, R69: storing what is heard touches the catch block alone. -/
theorem storeHeard_eq (t : Transaction) (rx : LoopRx) (s : State) :
    storeHeard t rx s = if t.call = .fetch ∧ t.heard ≠ .unacceptable ∧ storedPayload rx.bytes ≠ [] then
      caught (storedPayload rx.bytes) s else s := rfl

/-- R7, R64, R79: what an answer cut off while it is being received leaves. -/
theorem storeCutOff_eq (t : Transaction) (s : State) : storeCutOff t s = cutOff t s := rfl

/-- R61, R65: one that is not leaves the engine waiting for the line to fall quiet, the payload of a DATA to a FETCH
having been stored. -/
theorem nodeAnswer_unacceptable {t : Transaction} {s : State} (h : Hearing t s) {type addr pipeSeq : Byte}
    {payload : List Byte} (hp : payload.length ≤ Config.blockPayload)
    (hv : classify t ⟨type, addr, pipeSeq, payload⟩ = none) :
    nodeAnswer type addr pipeSeq payload s = .next (kickTx (updTxn (fun u => { u with heard := .unacceptable })
      (if t.call = .fetch ∧ type = typeData ∧ payload ≠ [] then caught payload s else s))) := by
  obtain ⟨hr, he, ht, hh⟩ := h
  have hs : storeHeard t (nodeFrame type addr pipeSeq payload) s =
      if t.call = .fetch ∧ type = typeData ∧ payload ≠ [] then caught payload s else s := by
    rw [storeHeard_eq, storedPayload_nodeFrame _ _ _ _ hp]
    by_cases hd : type = typeData
    · simp [hd, hh]
    · simp [hd]
  simp only [nodeAnswer, live, hr, if_true, hearFrame, he, ht, validAnswer, hh, if_false,
    readLoop_nodeFrame _ _ _ _ hp, Option.bind_some, hv, hs]

end Sys2Proof.Machine
end

