-- ==== Sys2Proof/Laws/Ops.lean ====
section
/-! SUPPORT. Lemmas about the shared operations on tables, queues and lists, each said once: what a table update keeps,
what discarding blocks and removing pipes amounts to, what the transmitter's choice can touch, and that every command
answers a next state. -/

namespace Sys2Proof.Machine

/-! ## Tables -/

/-- An update that keeps a key keeps the list of keys. -/
theorem map_updFirst {α β : Type} (hit : α → Bool) (f : α → α) (key : α → β) (h : ∀ x, key (f x) = key x)
    (xs : List α) : (updFirst hit f xs).map key = xs.map key := by
  induction xs with
  | nil => rfl
  | cons x xs ih =>
    simp only [updFirst]
    split <;> simp [h, ih]

/-- What holds of every record, and of every updated one, holds after an update. -/
theorem forall_updFirst {α : Type} {P : α → Prop} {hit : α → Bool} {f : α → α} {xs : List α}
    (h : ∀ x ∈ xs, P x) (hf : ∀ x ∈ xs, P x → P (f x)) : ∀ x ∈ updFirst hit f xs, P x := by
  induction xs with
  | nil => simp [updFirst]
  | cons x xs ih =>
    have hxs := ih (fun y hy => h y (List.mem_cons_of_mem _ hy)) (fun y hy => hf y (List.mem_cons_of_mem _ hy))
    intro y hy
    simp only [updFirst] at hy
    split at hy
    · rcases List.mem_cons.1 hy with rfl | hy
      · exact hf x (List.mem_cons_self ..) (h x (List.mem_cons_self ..))
      · exact h y (List.mem_cons_of_mem _ hy)
    · rcases List.mem_cons.1 hy with rfl | hy
      · exact h y (List.mem_cons_self ..)
      · exact hxs y hy

/-- Two updates of the same record are one. -/
theorem updFirst_updFirst {α : Type} {hit : α → Bool} {f g : α → α} (h : ∀ x, hit x = true → hit (f x) = true)
    (xs : List α) : updFirst hit g (updFirst hit f xs) = updFirst hit (fun x => g (f x)) xs := by
  induction xs with
  | nil => rfl
  | cons x xs ih =>
    by_cases hx : hit x = true
    · simp [updFirst, hx, h x hx]
    · simp [updFirst, hx, ih]

/-- The record found after an update of that record. -/
theorem find_updFirst {α : Type} {hit : α → Bool} {f : α → α} (h : ∀ x, hit x = true → hit (f x) = true)
    (xs : List α) : (updFirst hit f xs).find? hit = (xs.find? hit).map f := by
  induction xs with
  | nil => rfl
  | cons x xs ih =>
    by_cases hx : hit x = true
    · simp [updFirst, hx, h x hx]
    · simp [updFirst, hx, ih]

/-- Where keys are distinct, updating the record that bears a key is a map. -/
theorem updFirst_eq_map {α : Type} {key : α → Nat} (k : Nat) (f : α → α) {xs : List α} (h : (xs.map key).Nodup) :
    updFirst (fun x => key x == k) f xs = xs.map fun x => if key x = k then f x else x := by
  induction xs with
  | nil => rfl
  | cons x xs ih =>
    simp only [List.map_cons, List.nodup_cons, List.mem_map, not_exists, not_and] at h
    by_cases hx : key x = k
    · simp only [updFirst, hx, beq_self_eq_true, if_true, List.map_cons, List.cons.injEq, true_and]
      refine (List.map_id xs).symm.trans (List.map_congr_left fun y hy => ?_)
      rw [if_neg (fun e => h.1 y hy (e.trans hx.symm))]
      rfl
    · simp [updFirst, hx, ih h.2]

/-- An insertion adds exactly the record. -/
theorem insertBy_perm {α : Type} (key : α → Nat) (x : α) (xs : List α) : (insertBy key x xs).Perm (x :: xs) := by
  induction xs with
  | nil => exact List.Perm.refl _
  | cons y ys ih =>
    simp only [insertBy]
    split
    · exact List.Perm.refl _
    · exact (ih.cons y).trans (List.Perm.swap x y ys)

/-- A record of a new key inserted into a list in rising order keeps the order. -/
theorem insertBy_sorted {α : Type} (key : α → Nat) (x : α) {xs : List α} (h : (xs.map key).Pairwise (· < ·))
    (hx : ∀ y ∈ xs, key y ≠ key x) : ((insertBy key x xs).map key).Pairwise (· < ·) := by
  induction xs with
  | nil => simp [insertBy]
  | cons y ys ih =>
    simp only [List.map_cons, List.pairwise_cons] at h
    simp only [insertBy]
    split
    · rename_i hlt
      simp only [List.map_cons, List.pairwise_cons]
      refine ⟨fun k hk => ?_, h⟩
      rcases List.mem_cons.1 hk with rfl | hk
      · exact hlt
      · exact lt_trans hlt (h.1 k hk)
    · rename_i hge
      simp only [List.map_cons, List.pairwise_cons]
      refine ⟨fun k hk => ?_, ih h.2 fun z hz => hx z (List.mem_cons_of_mem _ hz)⟩
      rcases List.mem_map.1 hk with ⟨z, hz, rfl⟩
      rcases List.mem_cons.1 ((insertBy_perm key x ys).mem_iff.1 hz) with rfl | hz
      · exact lt_of_le_of_ne (not_lt.1 hge) (hx y (List.mem_cons_self ..))
      · exact h.1 _ (List.mem_map_of_mem hz)

/-! ## Repeated effects -/

/-- What every effect keeps, a sequence of effects keeps. -/
theorem forEach_keeps {α : Type} {f : α → State → State} {P : State → Prop} (h : ∀ x s, P s → P (f x s)) (xs : List α)
    {s : State} (hs : P s) : P (forEach f xs s) := by
  induction xs generalizing s with
  | nil => exact hs
  | cons x xs ih => exact ih (h x s hs)

/-- A sequence of effects for a longer list. -/
theorem forEach_append {α : Type} (f : α → State → State) (xs ys : List α) (s : State) :
    forEach f (xs ++ ys) s = forEach f ys (forEach f xs s) := by
  induction xs generalizing s with
  | nil => rfl
  | cons x xs ih => exact ih (f x s)

/-- An effect that can be taken before or after each of a sequence can be taken before or after the whole. -/
theorem forEach_comm {α : Type} {f : α → State → State} {g : State → State} (h : ∀ x s, f x (g s) = g (f x s))
    (xs : List α) (s : State) : forEach f xs (g s) = g (forEach f xs s) := by
  induction xs generalizing s with
  | nil => rfl
  | cons x xs ih => rw [forEach, h, ih, forEach]

/-! ## Moves of blocks -/

/-- R155, R157: a notice asked for does not look at the free list. -/
theorem notify_of_free (b : NoticeBody) (free : List Block) (s : State) :
    notify b { s with free := free } = { notify b s with free := free } := by
  unfold notify noticeFits
  split <;> rfl

/-- R11, R18: discarded blocks go to the free-list tail in order, and their notices are asked for in order. -/
theorem discardBlocks_eq (h : Nat) (bs : List Block) (s : State) :
    discardBlocks h bs s = forEach notify (discardNotices h bs) { s with free := s.free ++ bs.map Block.release } := by
  unfold discardBlocks
  induction bs generalizing s with
  | nil => simp [forEach, discardNotices]
  | cons b bs ih =>
    rw [forEach, ih]
    cases hc : b.confirm with
    | none => simp [discardBlock, notifyDelivered, hc, discardNotices, freeBlocks]
    | some tag =>
      simp only [discardBlock, notifyDelivered, hc, discardNotices, List.filterMap_cons, Option.map_some, forEach,
        freeBlocks, List.map_cons, List.map_nil]
      rw [notify_of_free]
      unfold notify noticeFits
      split <;> simp

/-- R18, R22: a pipe's removal takes its record out and discards its queue. -/
theorem removePipe_eq {h : Nat} {p : Pipe} {s : State} (hp : findPipe h s = some p) :
    removePipe h s = forEach notify (discardNotices h p.queue) { s with
      pipes := s.pipes.eraseP (fun q => q.handle == h)
      free := s.free ++ p.queue.map Block.release } := by
  rw [removePipe, hp]
  exact discardBlocks_eq h p.queue _

/-! ## The transmitter -/

/-- R146: the transmitter's choice touches HTX and the unsent marks of the notices, and nothing else. -/
theorem kickTx_frame (s : State) : ∃ tx notices, kickTx s = { s with tx := tx, notices := notices } ∧
    notices.map (fun n => (n.number, n.body, n.resend)) = s.notices.map (fun n => (n.number, n.body, n.resend)) := by
  unfold kickTx chooseFrame
  split
  · exact ⟨s.tx, s.notices, rfl, rfl⟩
  split
  · exact ⟨_, s.notices, rfl, rfl⟩
  split
  · exact ⟨_, s.notices, rfl, rfl⟩
  split
  · exact ⟨_, _, rfl, map_updFirst (·.unsent) (fun m : Notice => { m with unsent := false }) _ (fun _ => rfl) _⟩
  · exact ⟨s.tx, s.notices, rfl, rfl⟩

/-! ## Commands -/

/-- A command that acts while the part is out of reset answers a next state. -/
theorem live_next (f : State → State) (s : State) : ∃ t, live f s = .next t := by
  unfold live
  split
  · exact ⟨_, rfl⟩
  · exact ⟨_, rfl⟩

/-- Every command answers a next state from every state: none faults and none is refused. -/
theorem exec_next (c : Instr) (s : State) : ∃ t, exec c s = .next t := by
  cases c
  case powerUp => exact ⟨_, rfl⟩
  case resetPinAssert => exact ⟨_, rfl⟩
  case resetPinRelease => exact ⟨_, rfl⟩
  case lineDominant =>
    simp only [exec, execLineDominant]
    split
    · exact live_next _ _
    · exact ⟨_, rfl⟩
  case lineRecessive =>
    simp only [exec, execLineRecessive]
    split
    · exact live_next _ _
    · exact ⟨_, rfl⟩
  case hostInterbyteTimeout bytes => exact live_next (fun s => interByteTimeout (receive bytes s)) s
  all_goals exact live_next _ _

end Sys2Proof.Machine
end

