-- ==== Sys2Proof/Laws/Settled.lean ====
section
/-! SUPPORT. What the shared acts of the sift, of a close, of a cleared due list, of a line reset and of a line fault
leave: each equals the state that Sys2Proof.Safety names for it. -/

namespace Sys2Proof.Machine

/-! ## The sift -/

/-- R116: the end of a sift. -/
theorem endSift_eq (code : Code) (s : State) : endSift code s = siftEnded code s := rfl

/-- R110, R113, R114: the search goes on, or ends OK. -/
theorem continueSift_eq (s : State) : continueSift s = siftGoesOn s := rfl

/-- R114, R115: the held assignment is released. -/
theorem dropHeld_eq (s : State) : dropHeld s = heldReleased s := rfl

/-- R101: barring an address. -/
theorem barAddress_eq (a : Nat) (s : State) : barAddress a s = { s with barred := barredWith a s.barred } := by
  unfold barAddress barredWith
  split <;> rfl

/-- R117: cancellation. -/
theorem cancelSift_eq (s : State) : cancelSift s = siftCancelled s := by
  unfold cancelSift siftCancelled siftActive
  by_cases h : s.sift.state = .idle
  · simp [h]
  · simp only [ne_eq, h, not_false_eq_true, decide_true, if_true, if_false, endSift_eq]
    unfold cancelHeld
    split
    · next hd hh =>
      cases hk : hd.kind
      · by_cases ht : 0 < hd.tries
        · simp [barHeld, hk, ht, barAddress_eq, hh, raiseUnassigned, updSift, sat8]
        · simp [ht, hh, raiseUnassigned, updSift, sat8]
      · simp [barHeld, hk, hh, raiseUnassigned, updSift, sat8]
    · next hh => simp [hh]

/-- R66, R81, R117: the end of a transaction. -/
theorem endTxn_eq {t : Transaction} {s : State} (ht : s.txn = some t) (e : TxnEnd) :
    endTxn e s = settled (reportEnd t e (txnOver s)) := by
  rw [endTxn, ht]
  show (if (reportEnd t e (txnOver s)).loop = .running then _ else cancelSift (reportEnd t e (txnOver s))) = _
  rw [cancelSift_eq]
  rfl

/-! ## Replies -/

/-- R9, R139, R142, R143: a deferred reply touches the tables of the Request Handler, the reply queue and, by what it
pushes out, the free list, and reads nothing else. -/
theorem answerDeferred_nodes (w : Waits) (code : Code) (fields : ReplyFields) (s : State) (nodes : List Node) :
    answerDeferred w code fields { s with nodes := nodes } = { answerDeferred w code fields s with nodes := nodes } := by
  unfold answerDeferred answer composeReply
  dsimp only
  split
  · split
    · simp only [recordReply_eq, setWindow, enqueueReply]
      rfl
    · rfl
  · rfl

/-! ## The due list -/

/-- R56: dropping entries sets the countdown of each one's pipe to 0. -/
theorem forEach_dropDueEntry (es : List DueEntry) (s : State) (h : (s.pipes.map (·.handle)).Nodup) :
    forEach dropDueEntry es s = { s with
      pipes := s.pipes.map fun p => if DueEntry.pipe p.handle ∈ es then { p with countdown := 0 } else p } := by
  induction es generalizing s with
  | nil => simp [forEach]
  | cons e es ih =>
    rw [forEach]
    have keep : dropDueEntry e s = s → (∀ h, e ≠ .pipe h) → forEach dropDueEntry es (dropDueEntry e s) = { s with
        pipes := s.pipes.map fun p => if DueEntry.pipe p.handle ∈ e :: es then { p with countdown := 0 } else p } := by
      intro hs he
      rw [hs, ih s h]
      congr 1
      refine List.map_congr_left fun p _ => ?_
      simp [List.mem_cons, (he p.handle).symm]
    by_cases hpipe : ∃ k, e = .pipe k
    · obtain ⟨k, rfl⟩ := hpipe
      have hk : dropDueEntry (.pipe k) s = { s with
          pipes := s.pipes.map fun p => if p.handle = k then { p with countdown := 0 } else p } := by
        simp only [dropDueEntry, setCountdown, updPipe, updFirst_eq_map k _ h]
      rw [hk, ih _ (by
        have : (fun p : Pipe => (if p.handle = k then { p with countdown := 0 } else p).handle) = (·.handle) := by
          funext p; split <;> rfl
        simpa [List.map_map, Function.comp_def, this] using h)]
      simp only [List.map_map]
      congr 1
      refine List.map_congr_left fun p _ => ?_
      by_cases hp : p.handle = k <;> by_cases hm : DueEntry.pipe p.handle ∈ es <;> simp_all
    · refine keep ?_ fun k hk => hpipe ⟨k, hk⟩
      unfold dropDueEntry
      split
      · exact absurd ⟨_, rfl⟩ hpipe
      all_goals rfl

/-- R100: every DISMISSING node is settled. -/
theorem settleDismissals_eq (s : State) (h : (s.nodes.map (·.addr)).Nodup) :
    settleDismissals s = dismissalsSettled s := by
  have key : ∀ (as : List Nat) (u : State), (u.nodes.map (·.addr)).Nodup →
      forEach cancelDismissal as u =
        forEach (fun a => answerDeferred (.dismiss a) .cancelled (.dismissNode 0)) as { u with
          nodes := u.nodes.map fun n => if n.addr ∈ as then { n with state := .enrolled, dismissTries := 0 } else n } := by
    intro as
    induction as with
    | nil => intro u _; simp [forEach]
    | cons a as ih =>
      intro u hu
      have h1 : cancelDismissal a u = { answerDeferred (.dismiss a) .cancelled (.dismissNode 0) u with
          nodes := u.nodes.map fun n => if n.addr = a then { n with state := .enrolled, dismissTries := 0 } else n } := by
        simp only [cancelDismissal, updNode, updFirst_eq_map a _ hu, answerDeferred_nodes]
      have h2 : (fun n : Node => (if n.addr = a then { n with state := .enrolled, dismissTries := 0 } else n).addr) =
          (·.addr) := by funext n; split <;> rfl
      have h3 : (u.nodes.map fun n => if n.addr = a then { n with state := .enrolled, dismissTries := 0 } else n).map
            (fun n => if n.addr ∈ as then { n with state := .enrolled, dismissTries := 0 } else n) =
          u.nodes.map fun n => if n.addr ∈ a :: as then { n with state := .enrolled, dismissTries := 0 } else n := by
        rw [List.map_map]
        refine List.map_congr_left fun n _ => ?_
        by_cases hn : n.addr = a <;> by_cases hm : n.addr ∈ as <;> simp_all
      rw [forEach, h1, ih _ (by simpa [List.map_map, Function.comp_def, h2] using hu)]
      refine Eq.trans ?_ (congrArg (forEach _ as) (answerDeferred_nodes _ _ _ u _).symm)
      rw [← h3]
  unfold settleDismissals dismissalsSettled
  have hf : (fun n : Node => n.state == .dismissing) = fun n => decide (n.state = .dismissing) := by
    funext n; cases n.state <;> rfl
  rw [hf, key _ s h]
  congr 2
  refine List.map_congr_left fun n hn => ?_
  have : n.addr ∈ (s.nodes.filter fun m => decide (m.state = .dismissing)).map (·.addr) ↔ n.state = .dismissing := by
    constructor
    · intro hm
      obtain ⟨m, hm, ha⟩ := List.mem_map.1 hm
      have := List.inj_on_of_nodup_map h (List.mem_of_mem_filter hm) hn ha
      simpa [this] using (List.mem_filter.1 hm).2
    · intro hs
      exact List.mem_map_of_mem (List.mem_filter.2 ⟨hn, by simpa using hs⟩)
  simp only [this]

/-- R56, R57, R100: the due list is cleared. -/
theorem clearAndSettle_eq (s : State) (hp : (s.pipes.map (·.handle)).Nodup) (hn : (s.nodes.map (·.addr)).Nodup) :
    clearAndSettle s = dueCleared s := by
  have h : clearDue s = { s with
      due := []
      pipes := s.pipes.map fun p => if DueEntry.pipe p.handle ∈ s.due then { p with countdown := 0 } else p } := by
    rw [clearDue]
    exact forEach_dropDueEntry s.due { s with due := [] } hp
  rw [clearAndSettle, h]
  exact settleDismissals_eq _ hn

/-! ## The close of a pipe -/

/-- R37: a close is complete. -/
theorem completeClose_eq {h : Nat} {p : Pipe} {s : State} (hp : findPipe h s = some p) :
    completeClose h s = closed h p.queue s := by
  rw [completeClose, hp, removePipe_eq hp]
  rfl

/-- A pipe's record is found after its update. -/
theorem findPipe_updPipe {h : Nat} {f : Pipe → Pipe} {s : State} {p : Pipe} (hf : ∀ q, (f q).handle = q.handle)
    (hp : findPipe h s = some p) : findPipe h (updPipe h f s) = some (f p) := by
  unfold findPipe updPipe at *
  dsimp only
  rw [find_updFirst (by intro x hx; simpa [hf] using hx), hp]
  rfl

/-- Taking a record out forgets what an update did to it. -/
theorem eraseP_updFirst {α : Type} {hit : α → Bool} {f : α → α} (h : ∀ x, hit x = true → hit (f x) = true)
    (xs : List α) : (updFirst hit f xs).eraseP hit = xs.eraseP hit := by
  induction xs with
  | nil => rfl
  | cons x xs ih => by_cases hx : hit x = true <;> simp [updFirst, hx, h x, ih]

/-- R37: what is closed does not depend on the last changes of the pipe's record, but for its queue. -/
theorem closed_updPipe {h : Nat} {f : Pipe → Pipe} {queue : List Block} {s : State}
    (hf : ∀ q, (f q).handle = q.handle) : closed h queue (updPipe h f s) = closed h queue s := by
  unfold closed updPipe
  dsimp only
  rw [eraseP_updFirst (by intro x hx; simpa [hf] using hx)]

/-! ## The line reset and the line fault -/

/-- R155, R157: a notice asked for does not look at the pipe table or the free list. -/
theorem notify_of_pool (b : NoticeBody) (pipes : List Pipe) (free : List Block) (s : State) :
    notify b { s with pipes := pipes, free := free } = { notify b s with pipes := pipes, free := free } := by
  unfold notify noticeFits
  split <;> rfl

/-- R11, R155: notices asked for leave the pipe table and the free list as they are. -/
theorem forEach_notify_pool (ns : List NoticeBody) (s : State) :
    (forEach notify ns s).pipes = s.pipes ∧ (forEach notify ns s).free = s.free := by
  refine forEach_keeps (P := fun u => u.pipes = s.pipes ∧ u.free = s.free) (fun b u h => ?_) ns ⟨rfl, rfl⟩
  unfold notify
  split <;> exact h

/-- R42: every pipe of the table is removed in handle order, its queue discarded head first. -/
theorem removePipes_all (ps : List Pipe) (s : State) (h : s.pipes = ps) :
    removePipes (ps.map (·.handle)) s = forEach notify (ps.flatMap fun p => discardNotices p.handle p.queue)
      { s with pipes := [], free := s.free ++ (ps.flatMap (·.queue)).map Block.release } := by
  induction ps generalizing s with
  | nil =>
    simp only [removePipes, List.map_nil, List.flatMap_nil, forEach, List.append_nil]
    rw [← h]
  | cons p ps ih =>
    have hf : findPipe p.handle s = some p := by simp [findPipe, h]
    have he : s.pipes.eraseP (fun q => q.handle == p.handle) = ps := by simp [h]
    have hr : removePipes ((p :: ps).map (·.handle)) s = removePipes (ps.map (·.handle)) (removePipe p.handle s) := rfl
    have hn := forEach_notify_pool (discardNotices p.handle p.queue)
      { s with pipes := ps, free := s.free ++ p.queue.map Block.release }
    have hc := forEach_comm (f := notify) (g := fun u => { u with
      pipes := [], free := (s.free ++ p.queue.map Block.release) ++ (ps.flatMap fun q => q.queue).map Block.release })
      (fun b u => notify_of_pool b _ _ u) (discardNotices p.handle p.queue)
      { s with pipes := ps, free := s.free ++ p.queue.map Block.release }
    rw [hr, removePipe_eq hf, he, ih _ hn.1, hn.2]
    simp only [List.flatMap_cons, forEach_append, List.map_append, ← List.append_assoc]
    simp only [] at hc
    rw [← hc]

/-- R9, R139, R142, R143: a deferred reply looks at the tables of the Request Handler, the reply queue and the free list,
and leaves every other field as it was. -/
theorem answerDeferred_frame (w : Waits) (code : Code) (fields : ReplyFields) (s : State)
    (due : List DueEntry) (loop : LoopState) (target : Option DrainTarget) (phase : LinePhase)
    (domTimer roundTimer : Bool) (countdown : Nat) :
    answerDeferred w code fields { s with
      due := due, loop := loop, drainTarget := target, phase := phase, domTimer := domTimer,
      roundTimer := roundTimer, recallCountdown := countdown } =
    { answerDeferred w code fields s with
      due := due, loop := loop, drainTarget := target, phase := phase, domTimer := domTimer,
      roundTimer := roundTimer, recallCountdown := countdown } := by
  unfold answerDeferred answer composeReply
  dsimp only
  split
  · split
    · simp only [recordReply_eq, setWindow, enqueueReply]
      rfl
    · rfl
  · rfl

/-- R100: settling DISMISSING nodes leaves these fields as they were. -/
theorem dismissalsSettled_frame (s : State)
    (due : List DueEntry) (loop : LoopState) (target : Option DrainTarget) (phase : LinePhase)
    (domTimer roundTimer : Bool) (countdown : Nat) :
    dismissalsSettled { s with
      due := due, loop := loop, drainTarget := target, phase := phase, domTimer := domTimer,
      roundTimer := roundTimer, recallCountdown := countdown } =
    { dismissalsSettled s with
      due := due, loop := loop, drainTarget := target, phase := phase, domTimer := domTimer,
      roundTimer := roundTimer, recallCountdown := countdown } := by
  unfold dismissalsSettled
  exact forEach_comm (f := fun a => answerDeferred (.dismiss a) .cancelled (.dismissNode 0)) (g := fun u => { u with
      due := due, loop := loop, drainTarget := target, phase := phase, domTimer := domTimer,
      roundTimer := roundTimer, recallCountdown := countdown })
    (fun a u => answerDeferred_frame _ _ _ u due loop target phase domTimer roundTimer countdown)
    ((s.nodes.filter fun n => n.state = .dismissing).map (·.addr))
    { s with nodes := s.nodes.map fun n =>
        if n.state = .dismissing then { n with state := .enrolled, dismissTries := 0 } else n }

/-- R20, R42, R58, R100, R104, R130: entry to RESETTING. -/
theorem enterResetting_eq (s : State) (h : (s.nodes.map (·.addr)).Nodup) : enterResetting s = resetEntered s := by
  have hd : resetDue { s with
        loop := .resetting, drainTarget := none, phase := .resetDrive, domTimer := false, roundTimer := false } =
      { dismissalsSettled { s with due := [] } with
        loop := .resetting, drainTarget := none, phase := .resetDrive, domTimer := false, roundTimer := false
        due := [], recallCountdown := s.params.recallInterval } := by
    refine (settleDismissals_eq _ (by exact h)).trans ?_
    exact dismissalsSettled_frame { s with due := [] } _ _ _ _ _ _ _
  have hp : (dismissalsSettled { s with due := [] }).params = s.params ∧ (dismissalsSettled { s with due := [] }).due = [] := by
    unfold dismissalsSettled
    refine forEach_keeps (P := fun u => u.params = s.params ∧ u.due = []) (fun a u hu => ?_) _ ⟨rfl, rfl⟩
    unfold answerDeferred answer composeReply
    split
    · split
      · simp only [recordReply_eq]; exact hu
      · exact hu
    · exact hu
  have hdrop : ∀ u : State, dropAllPipes u = forEach notify (u.pipes.flatMap fun p => discardNotices p.handle p.queue)
      { u with
        pipes := [], catchSlot := none
        free := u.free ++ u.catchSlot.toList.map Block.release ++ (u.pipes.flatMap (·.queue)).map Block.release } := by
    intro u
    rw [dropAllPipes, removePipes_all _ _ rfl]
    unfold catchToFree freeBlocks
    cases hc : u.catchSlot with
    | none => simp [hc]
    | some b => simp
  rw [enterResetting]
  simp only [hd]
  rw [hdrop]
  unfold resetEntered dropAllNodes noteRemoved queuedBlocks
  simp only []
  rw [← forEach_comm (g := fun u => { u with nodes := [], barred := [] }) (fun b u => by unfold notify noticeFits; split <;> rfl)]
  rw [hp.1]
  congr 1
  rw [hp.2]

/-- R134: a line fault, where the abandonment of the transaction leaves no address and no handle twice. -/
theorem takeLineFault_eq {s : State} (hd : s.domTimer = true) (hl : (abandonTxn s).loop = s.loop)
    (hp : ((abandonTxn s).pipes.map (·.handle)).Nodup) (hn : ((abandonTxn s).nodes.map (·.addr)).Nodup) :
    takeLineFault s = faultStops (abandonTxn s) := by
  rw [takeLineFault, if_pos hd, clearAndSettle_eq _ hp hn, cancelSift_eq, ← hl]
  rfl

end Sys2Proof.Machine
end

