-- ==== Sys2Proof/Tests/Slice0.lean ====
section
/-! SUPPORT. Tests: the operand checks refuse ill-formed commands; checks, frames and single commands on small states
against the worked examples of the spec; and, for each statement with hypotheses, a state and operands that meet them. -/

namespace Sys2Proof.Tests

open Sys2Proof Sys2Proof.Machine

-- Each `decide +kernel` waits for the kernel; elaborated one at a time, the tests do not hold a thread each.
set_option Elab.async false

/-! ## WellFormed: each check refuses an ill-formed command and takes the longest well-formed one -/

/-- R169: a body of 225 bytes is too long; 224 bytes are not. -/
theorem test_wf_fields :
    (Instr.send 1 (List.replicate 223 0)).wellFormed = false ∧
    (Instr.send 1 (List.replicate 222 0)).wellFormed = true := by decide +kernel

/-- R142: a known kind is no bad kind. -/
theorem test_wf_badKind :
    (Instr.badKindRequest 0x14 1 []).wellFormed = false ∧ (Instr.badKindRequest 0x15 1 []).wellFormed = true ∧
    (Instr.badKindRequest 0x01 1 []).wellFormed = false ∧ (Instr.badKindRequest 0x00 1 []).wellFormed = true := by decide

/-- R173: a loop payload has at most 64 bytes. -/
theorem test_wf_payload :
    (Instr.data 1 0 (List.replicate 65 0)).wellFormed = false ∧
    (Instr.data 1 0 (List.replicate 64 0)).wellFormed = true := by decide

/-- R61: the loop receiver stores at most 70 bytes, and a stop fault lies in one of those heard. -/
theorem test_wf_heard :
    (Instr.garbledSettled ⟨List.replicate 71 0, none⟩).wellFormed = false ∧
    (Instr.garbledSettled ⟨List.replicate 70 0, some 70⟩).wellFormed = false ∧
    (Instr.garbledSettled ⟨List.replicate 70 0, some 69⟩).wellFormed = true := by decide

/-! ## Checks and frames (chapter 10) -/

/-- R168: the check of QUERY-PART with tag 00h is 0628h, and of the lone byte 01h 8005h. -/
theorem test_check : crcOf [0x02, 0x01, 0x00] = 0x0628 ∧ crcOf [0x01] = 0x8005 := by decide +kernel

/-- R169: the whole frame of QUERY-PART with tag 00h on HRX. -/
theorem test_frame_queryPart : requestFrame 0x01 0x00 [] = [0xE7, 0x02, 0x01, 0x00, 0x28, 0x06] := by decide +kernel

/-- R166: an identity goes out low byte first, and comes back. -/
theorem test_identity : bytesOfIdent 0x5A31C0E2 = [0xE2, 0xC0, 0x31, 0x5A] ∧
    payloadIdent [0xE2, 0xC0, 0x31, 0x5A] = some 0x5A31C0E2 := by decide

/-- R106, R109: the prefix 101 covers an identity whose three leading bits are 101, and its extensions part it. -/
theorem test_prefix :
    prefixCovers ⟨3, 0xA0000000⟩ 0xB5000C20 = true ∧ prefixCovers ⟨3, 0xA0000000⟩ 0xD5000C20 = false ∧
    extendPrefix ⟨3, 0xA0000000⟩ true = ⟨4, 0xB0000000⟩ ∧ extendPrefix ⟨3, 0xA0000000⟩ false = ⟨4, 0xA0000000⟩ ∧
    prefixCovers ⟨0, 0⟩ 0xFFFFFFFF = true ∧ prefixCovers ⟨32, 7⟩ 6 = false := by decide

/-- R61: a DATA of one byte is read back; one with LEN 65, one cut short and one with a stop fault
in its last byte are faulty; a stop fault behind its last byte does not count. -/
theorem test_readLoop :
    readLoop (nodeFrame 0x20 9 0x81 [5]) = some ⟨0x20, 9, 0x81, [5]⟩ ∧
    readLoop ⟨[0x20, 9, 0x81, 65, 0, 0], none⟩ = none ∧
    readLoop ⟨(encodeLoop ⟨0x20, 9, 0x81, [5]⟩).dropLast, none⟩ = none ∧
    readLoop ⟨encodeLoop ⟨0x20, 9, 0x81, [5]⟩, some 6⟩ = none ∧
    readLoop ⟨encodeLoop ⟨0x20, 9, 0x81, [5]⟩ ++ [1], some 7⟩ = some ⟨0x20, 9, 0x81, [5]⟩ := by decide +kernel

/-! ## Single commands on small states -/

/-- The state a command leaves. -/
def after (c : Instr) (s : State) : State :=
  match exec c s with
  | .next t => t
  | .fault _ => s
  | .refused _ => s

/-- A node record. -/
def nodeAt (addr : Nat) (identity : Ident) (state : NodeState) (silence : Nat) : Node :=
  ⟨addr, identity, state, silence, 0⟩

/-- A pipe of node `node` with this queue. -/
def pipeAt (handle node number : Nat) (dir : Direction) (state : PipeState) (queue : List Block) : Pipe :=
  { newPipe handle node number dir 4 2 with state := state, queue := queue }

/-- A RUNNING loop with these nodes and pipes and these blocks free. -/
def runningPart (nodes : List Node) (pipes : List Pipe) (free : List Block) : State :=
  { State.reset with loop := .running, roundTimer := true, nodes := nodes, pipes := pipes, free := free }

/-- A FETCH from pipe number 1 of node 9 in its reply window, its catch block taken. -/
def fetching (p : Pipe) (s : State) : State :=
  { s with
    engine := .awaiting
    txn := some ⟨.pipe p.handle, .fetch, p.node, p.node, p.number, p.seq, [], none, none, 200, .nothing, none⟩
    catchSlot := some ⟨95, [], false, none⟩ }

/-- A DELIVER on a pipe in its reply window. -/
def delivering (p : Pipe) (s : State) : State :=
  { s with
    engine := .awaiting
    txn := some ⟨.pipe p.handle, .deliver, p.node, p.node, p.number, p.seq, [1], none, none, 200, .nothing, none⟩ }

/-- A CLEAR on a pipe in its reply window. -/
def clearing (p : Pipe) (s : State) : State :=
  { s with
    engine := .awaiting
    txn := some ⟨.pipe p.handle, .clear, p.node, p.node, p.number, false, [], none, none, 200, .nothing, none⟩ }

/-- A call on a node, or a sift call, in its reply window. -/
def calling (entry : DueEntry) (call : CallKind) (addr answerFrom : Nat) (identity : Option Ident)
    (probed : Option Prefix) (s : State) : State :=
  { s with
    engine := .awaiting
    txn := some ⟨entry, call, addr, answerFrom, 0, false, [], identity, probed, 200, .nothing, none⟩ }

def inPipe : Pipe := pipeAt 0 9 1 .inbound .active []
def outPipe : Pipe := pipeAt 47 9 3 .outbound .active [⟨20, [1], true, some 0x44⟩, ⟨21, [2], false, none⟩]
def someBlocks : List Block := (List.range 9).map fun i => ⟨i, [], false, none⟩

/-- R10: a SEND with 9 blocks free takes the free-list head; with 8 it is refused NO-BLOCK. -/
theorem test_send :
    (after (.send 1 [47, 0, 7]) (runningPart [] [pipeAt 47 9 3 .outbound .active []] someBlocks)).pipes.map (·.queue) =
      [[⟨0, [7], false, none⟩]] ∧
    (after (.send 1 [47, 0, 7]) (runningPart [] [pipeAt 47 9 3 .outbound .active []] (someBlocks.drop 1))).recent.map
      (·.reply.code) = [.noBlock] := by decide +kernel

/-- R13: a COLLECT of 3 from a queue of 1 takes the one block into its retained set. -/
theorem test_collect :
    (after (.collect 1 [0, 3, 0, 0]) (runningPart [] [pipeAt 0 9 1 .inbound .active [⟨20, [1], false, none⟩]]
      someBlocks)).recent.map (fun e => (e.retained.map (·.index), e.reply.fields)) =
      [([20], .collect 0 .notAsked 1 0)] := by decide +kernel

/-- R4, R21: an IN pipe has no outbound queue, and an OUT pipe no inbound one (log 17). -/
theorem test_wrongDirection :
    (after (.send 1 [0, 0, 7]) (runningPart [] [pipeAt 0 9 1 .inbound .active [⟨20, [1], false, none⟩]]
      someBlocks)).recent.map (fun e => (e.reply.code, e.reply.fields)) = [(.wrongDirection, .send 0)] ∧
    (after (.collect 1 [47, 1, 0, 0]) (runningPart [] [outPipe] someBlocks)).recent.map
      (fun e => (e.reply.code, e.reply.fields)) = [(.wrongDirection, .collect 47 .notAsked 0 0)] := by decide +kernel

/-- R14: FLUSH leaves an in-flight outbound head. -/
theorem test_flush :
    (after (.flush 1 [47]) (runningPart [] [outPipe] [])).free.map (·.index) = [21] := by decide +kernel

/-- R22, R26: OPEN-PIPE takes handle 1 where 0 and 2 are used, and a second pipe with its number is refused. -/
theorem test_openPipe :
    (after (.openPipe 1 [9, 2, 0, 5, 8]) (runningPart [nodeAt 9 1 .enrolled 0]
      [inPipe, pipeAt 2 9 0 .inbound .active []] [])).pipes.map (·.handle) = [0, 1, 2] ∧
    (after (.openPipe 1 [9, 1, 0, 5, 8]) (runningPart [nodeAt 9 1 .enrolled 0] [inPipe] [])).recent.map
      (·.reply.code) = [.pipeExists] := by decide +kernel

/-- R97: DISMISS-NODE removes a LOST node with its pipe and bars its address. -/
theorem test_dismissLost :
    (let t := after (.dismissNode 1 [9]) (runningPart [nodeAt 9 1 .lost 0] [outPipe] [])
     (t.nodes, t.pipes, t.barred, t.free.map (·.index))) = ([], [], [9], [20, 21]) := by decide +kernel

/-- R70, R71: an accepted DATA waits for its CONFIRM; a DATA whose bit differs is a duplicate. -/
theorem test_data :
    (after (.data 9 0x01 [7]) (fetching inPipe (runningPart [] [inPipe] []))).txn.map (·.verdict) =
      some (some ⟨true, false⟩) ∧
    (after (.data 9 0x81 [7]) (fetching inPipe (runningPart [] [inPipe] []))).txn.map (·.verdict) =
      some (some ⟨false, true⟩) := by decide +kernel

/-- R7, R69, R73: a DATA whose check is wrong has left its payload in the catch block, which goes back to the pool. -/
theorem test_garbledData :
    (after (.garbledSettled ⟨[0x20, 9, 0x01, 2, 5, 6, 0, 0], none⟩)
      (fetching inPipe (runningPart [nodeAt 9 1 .enrolled 0] [inPipe] []))).free.map (fun b => (b.index, b.payload)) =
      [(95, [5, 6])] := by decide +kernel

/-- R17, R75: TAKEN frees the head and flips the send bit. -/
theorem test_taken :
    (let t := after (.taken 9 0x03 []) (delivering outPipe (runningPart [nodeAt 9 1 .enrolled 2] [outPipe] []))
     (t.free.map (·.index), t.pipes.map (·.seq), t.nodes.map (·.silence))) = ([20], [true], [0]) := by decide +kernel

/-- R90, R91: the NONE that brings the silence count to the loss limit, 6, makes the node LOST. -/
theorem test_lost :
    (after .replyWindowExpiry (clearing inPipe (runningPart [nodeAt 9 1 .enrolled 5] [inPipe] []))).nodes.map
      (fun n => (n.state, n.silence)) = [(.lost, 6)] := by decide +kernel

/-- R30: the third failed try of a CLEARING pipe, at try limit 3, makes it FAULTED with clear-needed set. -/
theorem test_faulted :
    (let p := { pipeAt 0 9 1 .inbound .clearing [] with tries := 2 }
     (after .garbleLimitExpiry { clearing p (runningPart [nodeAt 9 1 .enrolled 0] [p] []) with
       txn := some ⟨.pipe 0, .clear, 9, 9, 1, false, [], none, none, 200, .activity, none⟩ }).pipes.map
      fun q => (q.state, q.clearNeeded, q.tries)) = [(.faulted, true, 0)] := by decide +kernel

/-- R93: PRESENT with the record's identity brings the node back; with another identity it does not. -/
theorem test_present :
    (after (.present 9 0 (bytesOfIdent 7)) (calling (.recall 9) .ping 9 9 (some 7) none
      (runningPart [nodeAt 9 7 .lost 6] [] []))).nodes.map (·.state) = [.enrolled] ∧
    (after (.present 9 0 (bytesOfIdent 8)) (calling (.recall 9) .ping 9 9 (some 7) none
      (runningPart [nodeAt 9 7 .lost 6] [] []))).nodes.map (·.state) = [.lost] := by decide +kernel

/-- R48: the recall countdown expires at the round start that takes it to 0, and at no other time. -/
theorem test_recallExpiry :
    (let s := fun (n : Nat) => after .recallCountdownExpiry
       { runningPart [nodeAt 9 7 .lost 6] [] [] with recallCountdown := n }
     ((s 1).due, (s 1).recallCountdown, (s 2).due, (s 2).recallCountdown)) = ([.recall 9], 64, [], 2) := by decide +kernel

/-- The countdowns a command leaves where handle 0 stood at 3 and handle 47, whose entry alone is due, at 4. -/
def countdownsAfter (c : Instr) : List Nat :=
  (after c { runningPart [nodeAt 9 1 .enrolled 0] [{ inPipe with countdown := 3 }, { outPipe with countdown := 4 }] [] with
    due := [.pipe 47], domTimer := true }).pipes.map (·.countdown)

/-- R43, R56 and the worked example of 11.6: as REST is sent the pipe of the dropped entry takes countdown 0, the other
keeps its own. -/
theorem test_restDropsEntries : countdownsAfter (.restLoop 0x28 []) = [3, 0] := by decide +kernel

/-- R43, R57: so at a line fault. -/
theorem test_faultDropsEntries : countdownsAfter .lineFault = [3, 0] := by decide +kernel

/-- R110: a garbled PROBE of the empty prefix pushes 1 and then 0. -/
theorem test_probe :
    (after (.garbledSettled ⟨[1], none⟩) (calling .sift .probe 0 0 none (some ⟨0, 0⟩)
      { runningPart [] [] [] with sift := { idleSift with state := .probing } })).sift.stack =
      [⟨1, 0⟩, ⟨1, 0x80000000⟩] := by decide +kernel

/-- R111: the lowest address neither occupied nor barred. -/
theorem test_ident :
    (after (.ident 0 0 (bytesOfIdent 5)) (calling .sift .probe 0 0 none (some ⟨0, 0⟩)
      { runningPart [nodeAt 1 1 .enrolled 0] [] [] with
        barred := [2], sift := { idleSift with state := .probing } })).sift.held =
      some ⟨5, 3, .new, 0⟩ := by decide +kernel

/-- R131: a dominant level of 1000 µs in RESTING is a wake pulse; one of 999 µs is not. -/
theorem test_wakePulse :
    (after (.lineRecessive 1000) { State.reset with loop := .resting, lineDominant := true }).notices.map (·.body) =
      [.ready .power, .wakeSeen] ∧
    (after (.lineRecessive 999) { State.reset with loop := .resting, lineDominant := true }).notices.map (·.body) =
      [.ready .power] := by decide +kernel

/-- R138: a stray SYNC in front of a QUERY-PART costs one count. -/
theorem test_rescan :
    (let t := after (.hostFrameDiscard (0xE7 :: requestFrame 0x01 0x00 [])) State.reset
     (t.counters.framesRejected, t.recent.map (·.reply.fields))) = (1, [.queryPart]) := by decide +kernel

/-- R146: two frames of one request received by one rescan: the reply to the first is begun before the refusal of the
second is composed. -/
theorem test_rescanTwice :
    (let t := after (.hostFrameDiscard (0xE7 :: requestFrame 0x01 0x00 [] ++ requestFrame 0x01 0x00 []))
       { State.reset with tx := none, notices := [] }
     (t.tx.map (·.kind), t.refusal.map (·.code))) = (some .reply, some .tagInUse) := by decide +kernel

/-- R155: after number 65535 comes number 1. -/
theorem test_noticeWrap : (notify .wakeSeen { State.reset with nextNumber := 65535 }).nextNumber = 1 := by decide

/-- R146: the end of the READY frame starts the resend timer and leaves HTX idle. -/
theorem test_readySent : (let t := after .hostFrameSent State.reset; (t.tx, t.resendTimer)) = (none, true) := by
  decide +kernel

/-! ## States that meet the hypotheses of the statements, clause by clause, at the ends of the ranges -/

/-- A state with a request of tag 7 in the window, its reply queued, and one of tag 8 waiting for the sift. -/
def windowed : State :=
  { State.reset with
    window := [⟨7, 0x02, 1, .hostPort, .replyQueued⟩, ⟨8, 0x0A, 2, .siftUnit, .deferred .sift⟩]
    replyQueue := [⟨⟨0x82, 7, .ok, .none⟩, false, false⟩] }

/-- A recorded QUERY-PART of tag 5, and a recorded, released COLLECT of tag 6. -/
def recordedQuery : RecentEntry := ⟨5, 0x01, requestCheck 0x01 5 [], ⟨0x81, 5, .ok, .queryPart⟩, [], false⟩
def recordedCollect (released : Bool) : RecentEntry :=
  ⟨6, 0x12, requestCheck 0x12 6 [0, 1, 0, 0], ⟨0x92, 6, .ok, .collect 0 .notAsked 1 0⟩,
    if released then [] else [⟨30, [1], false, none⟩], released⟩

theorem witness_StepRunsTheFrontCommand :
    ({ State.reset with pending := [.roundStart, .drainEnd] } : State).pending = .roundStart :: [.drainEnd] ∧
    State.reset.pending = [] := by decide

theorem witness_PowerAndTheResetPinStartThePart :
    State.reset.rstHigh = true ∧ ({ State.reset with rstHigh := false } : State).rstHigh = false := by decide

theorem witness_HeldInResetNothingActs :
    ({ State.reset with rstHigh := false } : State).rstHigh = false ∧
    (∀ r1 r0, Instr.roundStart ≠ .powerUp r1 r0) ∧ Instr.roundStart ≠ .resetPinAssert ∧
    (∀ r1 r0, Instr.roundStart ≠ .resetPinRelease r1 r0) ∧ Instr.roundStart ≠ .lineDominant ∧
    (∀ lasted, Instr.roundStart ≠ .lineRecessive lasted) := by
  refine ⟨rfl, ?_, ?_, ?_, ?_, ?_⟩ <;> simp

/-- Bodies of 2 and of 224 bytes, LEN bytes 1 and 225, cuts after the SYNC and before the last check byte. -/
theorem witness_BadFramesAreDiscardedCountedAndRescanned :
    Listening State.reset ∧ Config.sync ∉ ([1, 2] : List Byte) ∧
    ((1 : Byte) ≠ Config.sync ∧ ¬(2 ≤ (1 : Byte).toNat ∧ (1 : Byte).toNat ≤ 224)) ∧
    ((225 : Byte) ≠ Config.sync ∧ ¬(2 ≤ (225 : Byte).toNat ∧ (225 : Byte).toNat ≤ 224)) ∧
    (2 ≤ ([1, 0] : List Byte).length ∧ ([1, 0] : List Byte).length ≤ 224 ∧ ([0, 0] : List Byte).length = 2 ∧
      ([0, 0] : List Byte) ≠ bytesOfCheck (crcOf (byteOf 2 :: [1, 0])) ∧ Config.sync ∉ ([1, 0] ++ [0, 0] : List Byte)) ∧
    fieldsFit (List.replicate 222 0) = true ∧
    (([] : List Byte).length < (([] : List Byte).headD 0).toNat + 3 ∧
      ([2, 1, 0, 0] : List Byte).length < (([2, 1, 0, 0] : List Byte).headD 0).toNat + 3 ∧
      Config.sync ∉ ([2, 1, 0, 0] : List Byte)) := by decide +kernel

/-- A body of 224 bytes: one of two tails is not its check. -/
theorem witness_BadFramesAreDiscardedCountedAndRescanned_longest :
    (List.replicate 224 (0 : Byte)).length ≤ 224 ∧
    ∃ tail : List Byte, tail.length = 2 ∧ tail ≠ bytesOfCheck (crcOf (byteOf 224 :: List.replicate 224 0)) ∧
      Config.sync ∉ List.replicate 224 (0 : Byte) ++ tail := by
  refine ⟨by decide +kernel, ?_⟩
  by_cases h : [0, 0] = bytesOfCheck (crcOf (byteOf 224 :: List.replicate 224 0))
  · exact ⟨[1, 0], rfl, by rw [← h]; simp, by decide +kernel⟩
  · exact ⟨[0, 0], rfl, h, by decide +kernel⟩

theorem witness_UnadmittedRequestsAreDiscardedOrRefused :
    requestOf (.queryPart 7 []) = some (kindQueryPart, 7, []) ∧ fieldsFit [] = true ∧ Listening windowed ∧
    ({ windowed with restartPending := true } : State).restartPending = true ∧ windowed.restartPending = false ∧
    ¬(kindQueryPart = kindRestart ∧ ([] : List Byte) = []) ∧ (∃ w ∈ windowed.window, w.tag = 7) ∧
    4 ≤ ({ windowed with window := windowed.window ++ windowed.window } : State).window.length ∧
    windowed.refusal = none ∧
    ({ windowed with refusal := some ⟨0x81, 7, .tagInUse, .none⟩ } : State).refusal ≠ none := by decide +kernel

theorem witness_RepeatIsAnsweredFromTheRecord :
    (let s := { State.reset with recent := [recordedCollect true, recordedQuery] }
     requestOf (.queryPart 5 []) = some (kindQueryPart, 5, []) ∧ fieldsFit [] = true ∧ Listening s ∧
     s.restartPending = false ∧ ¬(kindQueryPart = kindRestart ∧ ([] : List Byte) = []) ∧
     (∀ w ∈ s.window, w.tag ≠ 5) ∧ s.window.length < 4 ∧ s.recent = [recordedCollect true] ++ recordedQuery :: [] ∧
     (∀ x ∈ [recordedCollect true], x.tag ≠ 5) ∧ recordedQuery.tag = 5 ∧
     recordedQuery.crc = requestCheck kindQueryPart 5 [] ∧ recordedQuery.released = false ∧
     requestOf (.collect 6 [0, 1, 0, 0]) = some (kindCollect, 6, [0, 1, 0, 0]) ∧
     s.recent = [] ++ recordedCollect true :: [recordedQuery] ∧
     (recordedCollect true).crc = requestCheck kindCollect 6 [0, 1, 0, 0] ∧ (recordedCollect true).released = true ∧
     (recordedCollect true).reply.fields = .collect 0 .notAsked 1 0) := by decide +kernel

theorem witness_TagReuseForgetsTheEntry :
    (let s := { State.reset with recent := [recordedCollect false, recordedQuery] }
     requestOf (.queryPart 6 []) = some (kindQueryPart, 6, []) ∧ fieldsFit [] = true ∧ Listening s ∧
     s.restartPending = false ∧ ¬(kindQueryPart = kindRestart ∧ ([] : List Byte) = []) ∧
     (∀ w ∈ s.window, w.tag ≠ 6) ∧ s.window.length < 4 ∧ s.recent = [] ++ recordedCollect false :: [recordedQuery] ∧
     (∀ x ∈ ([] ++ [recordedQuery] : List RecentEntry), x.tag ≠ 6) ∧ (recordedCollect false).tag = 6 ∧
     (recordedCollect false).crc ≠ requestCheck kindQueryPart 6 []) := by decide +kernel

theorem witness_BadLengthAndBadKindAreAnswered :
    requestOf (.send 1 [0, 0]) = some (kindSend, 1, [0, 0]) ∧ fieldsFit [0, 0] = true ∧ Accepts 1 State.reset ∧
    kindKnown kindSend = true ∧ lengthFits kindSend [0, 0] = false ∧
    lengthFits kindSend (List.replicate 67 0) = false ∧ kindKnown 0x01 = true ∧ kindKnown 0x14 = true ∧
    requestOf (.badKindRequest 0x15 1 []) = some (0x15, 1, []) ∧ kindKnown 0x15 = false ∧ kindKnown 0x00 = false := by
  decide +kernel

theorem witness_QueryPartAndReadStatusReport : Accepts 255 State.reset ∧ Accepts 0 State.reset := by decide

theorem witness_RestartIsAdmittedAndTakesEffect :
    Listening windowed ∧ windowed.restartPending = false ∧
    (let q : QueuedReply := ⟨⟨0x83, 1, .ok, .none⟩, false, true⟩
     let s := { State.reset with tx := some ⟨.reply, []⟩, replyQueue := [q] }
     s.rstHigh = true ∧ s.tx = some ⟨.reply, []⟩ ∧ s.replyQueue = q :: [] ∧ q.restart = true) := by decide

/-- The least and the greatest value of each field, and one just outside. -/
theorem witness_SetLoopReplacesTheParameters :
    Accepts 1 State.reset ∧ (State.reset.loop = .off ∨ State.reset.loop = .stopped) ∧
    (let s := runningPart [] [] []
     Accepts 1 s ∧ s.loop ≠ .off ∧ s.loop ≠ .stopped) ∧
    (let inRange := fun (period wlo whi tries loss interval auto : Byte) =>
       decide ((2 ≤ period.toNat ∧ period.toNat ≤ 100) ∧
         (50 ≤ wlo.toNat + 256 * whi.toNat ∧ wlo.toNat + 256 * whi.toNat ≤ 1000 ∧
           (wlo.toNat + 256 * whi.toNat) % 10 = 0) ∧
         (1 ≤ tries.toNat ∧ tries.toNat ≤ 7) ∧ (2 ≤ loss.toNat ∧ loss.toNat ≤ 32) ∧ 16 ≤ interval.toNat ∧
         auto.toNat ≤ 1)
     inRange 2 50 0 1 2 16 0 = true ∧ inRange 100 232 3 7 32 255 1 = true ∧ inRange 1 50 0 1 2 16 0 = false ∧
     inRange 100 242 3 7 32 255 1 = false ∧ inRange 100 232 3 7 32 255 2 = false) := by decide

theorem witness_LoopStateRequestsAnsweredAtOnce :
    Accepts 1 State.reset ∧ promptCode .stop State.reset.loop = some .ok ∧
    (let s := { State.reset with loop := .stopped, lineDominant := true }
     Accepts 1 s ∧ s.loop = .stopped ∧ s.lineDominant = true) ∧
    (let s := { State.reset with loop := .stopped }
     Accepts 1 s ∧ s.loop = .stopped ∧ s.lineDominant = false) := by decide

theorem witness_LineResetEmptiesTheTables :
    Accepts 1 State.reset ∧ State.reset.loop = .off ∧ State.reset.catchSlot = none ∧
    (∀ n ∈ State.reset.nodes, n.state ≠ .dismissing) ∧
    (let s := { runningPart [nodeAt 9 1 .enrolled 0] [inPipe, outPipe] [] with loop := .resting, roundTimer := false }
     Accepts 1 s ∧ s.loop = .resting ∧ (∀ n ∈ s.nodes, n.state ≠ .dismissing) ∧ s.catchSlot = none) := by decide

theorem witness_DrainWaitsForTheTransaction :
    (let s := { fetching inPipe (runningPart [nodeAt 9 1 .enrolled 0] [inPipe] []) with
       sift := { idleSift with state := .assigning, held := some ⟨5, 1, .new, 1⟩ } }
     Accepts 1 s ∧ s.loop = .running ∧ s.txn ≠ none ∧ (∀ t ∈ s.txn, t.entry ≠ .sift) ∧ s.sift.state ≠ .idle) ∧
    (let s := { calling .sift .probe 0 0 none (some ⟨0, 0⟩) (runningPart [] [] []) with
       sift := { idleSift with state := .probing } }
     Accepts 1 s ∧ s.loop = .running ∧ s.txn.map (·.entry) = some .sift) := by decide

/-- A loop with a due pipe, a DISMISSING node and an active sift that holds a tried NEW identity. -/
def loadedPart : State :=
  { runningPart [nodeAt 9 1 .dismissing 0] [inPipe, outPipe] [] with
    due := [.pipe 47, .sift, .dismiss 9], sift := { idleSift with state := .assigning, held := some ⟨5, 1, .new, 1⟩ } }

theorem witness_DrainEndReachesItsTarget :
    (let s := fun (engine : EngineState) => { loadedPart with engine := engine }
     let meets := fun (s : State) => decide (Accepts 1 s ∧ s.loop = .running ∧ s.txn = none ∧
       (s.pipes.map (·.handle)).Nodup ∧ (s.nodes.map (·.addr)).Nodup)
     meets (s .idle) = true ∧ meets (s .turnaround) = true ∧ (s .turnaround).engine = .turnaround ∧
     (s .idle).engine = .idle ∧ (s .idle).phase = .quiet) ∧
    (let s := fun (target : DrainTarget) (engine : EngineState) =>
       { loadedPart with
         loop := .draining, roundTimer := false, drainTarget := some target, engine := engine, sift := idleSift
         loopSlot := some ⟨.reset, 0, 0⟩ }
     let meets := fun (s : State) => decide (s.rstHigh = true ∧ s.loop = .draining ∧ s.txn = none ∧ s.phase = .quiet ∧
       (s.pipes.map (·.handle)).Nodup ∧ (s.nodes.map (·.addr)).Nodup)
     (meets (s .stopped .turnaround) = true ∧ (s .stopped .turnaround).drainTarget = some .stopped) ∧
     (meets (s .resting .idle) = true ∧ (s .resting .idle).drainTarget = some .resting ∧ (s .resting .idle).engine = .idle) ∧
     (meets (s .resetting .idle) = true ∧ (s .resetting .idle).drainTarget = some .resetting ∧
       (s .resetting .idle).engine = .idle) ∧
     (meets (s .resetting .turnaround) = true ∧ (s .resetting .turnaround).engine = .turnaround)) := by
  decide

theorem witness_RestAndWakeBroadcastsChangeTheLoop :
    (Accepts 1 loadedPart ∧ loadedPart.loop = .running ∧ loadedPart.txn = none ∧ loadedPart.engine = .idle ∧
      loadedPart.phase = .quiet ∧ (loadedPart.pipes.map (·.handle)).Nodup ∧ (loadedPart.nodes.map (·.addr)).Nodup) ∧
    (let s := { runningPart [nodeAt 9 1 .enrolled 0] [inPipe, outPipe] [] with due := [.pipe 47] }
     Accepts 1 s ∧ s.loop = .running ∧ s.txn = none ∧ s.engine = .idle ∧ s.phase = .quiet ∧
     (s.pipes.map (·.handle)).Nodup ∧ s.sift.state = .idle ∧ (∀ n ∈ s.nodes, n.state ≠ .dismissing)) ∧
    (let s := fun (loop : LoopState) (phase : LinePhase) (level : Bool) =>
       { State.reset with loop := loop, phase := phase, lineDominant := level, loopSlot := some ⟨.wake, 0, 0⟩ }
     (s .draining .restFrame false).phase = .restFrame ∧ (s .draining .restFrame false).rstHigh = true ∧
     (let r := { s .resting .quiet false with loopSlot := none }
      Accepts 1 r ∧ r.loop = .resting ∧ r.lineDominant = false) ∧
     (let r := { s .resting .quiet true with loopSlot := none }
      Accepts 1 r ∧ r.loop = .resting ∧ r.lineDominant = true) ∧
     (s .waking .wakeFrame false).phase = .wakeFrame ∧ (s .waking .wakeSettle false).phase = .wakeSettle ∧
     (s .waking .wakeSettle true).rstHigh = true) := by decide

theorem witness_SiftRequestStartsTheSearch :
    Accepts 1 State.reset ∧ State.reset.loop ≠ .running ∧
    (let s := { runningPart [] [] [] with sift := { idleSift with state := .assigning } }
     Accepts 1 s ∧ s.loop = .running ∧ s.sift.state ≠ .idle) ∧
    (let s := runningPart [] [] []
     Accepts 1 s ∧ s.loop = .running ∧ s.sift.state = .idle) := by decide

theorem witness_ReadRequestsReportTheRecord :
    (let s := runningPart [nodeAt 1 5 .enrolled 0, nodeAt 30 6 .lost 6] [pipeAt 0 1 0 .inbound .active [], outPipe] []
     Accepts 1 s ∧ (0 : Byte).toNat < 1 ∧ 30 < (31 : Byte).toNat ∧ findNode 2 s = none ∧
     findNode 1 s = some (nodeAt 1 5 .enrolled 0) ∧ findNode 30 s = some (nodeAt 30 6 .lost 6) ∧
     47 < (48 : Byte).toNat ∧ findPipe 1 s = none ∧ findPipe 0 s = some (pipeAt 0 1 0 .inbound .active []) ∧
     findPipe 47 s = some outPipe) := by decide +kernel

theorem witness_DismissNodeChecksDefersOrRemoves :
    (let s := runningPart [nodeAt 1 5 .enrolled 0, nodeAt 2 8 .dismissing 0, nodeAt 30 6 .lost 6] [inPipe, outPipe] []
     Accepts 1 s ∧ (0 : Byte).toNat < 1 ∧ 30 < (31 : Byte).toNat ∧ findNode 3 s = none ∧
     findNode 2 s = some (nodeAt 2 8 .dismissing 0) ∧ findNode 1 s = some (nodeAt 1 5 .enrolled 0) ∧
     s.loop = .running ∧ ({ s with loop := .stopped } : State).loop ≠ .running ∧ DueEntry.dismiss 1 ∉ s.due ∧
     findNode 30 s = some (nodeAt 30 6 .lost 6) ∧ 30 ∉ s.barred ∧ (s.pipes.map (·.handle)).Nodup) := by decide

theorem witness_OpenPipeTakesTheLowestFreeHandle :
    (let s := runningPart [nodeAt 1 5 .enrolled 0, nodeAt 30 6 .lost 6, nodeAt 2 8 .dismissing 0]
       [pipeAt 0 1 0 .inbound .active []] []
     let inRange := fun (node number dir period quota : Byte) =>
       decide ((1 ≤ node.toNat ∧ node.toNat ≤ 30) ∧ number.toNat ≤ 3 ∧ dir.toNat ≤ 1 ∧ period.toNat ≠ 0 ∧
         1 ≤ quota.toNat ∧ quota.toNat ≤ 32)
     Accepts 1 s ∧ inRange 1 0 0 1 1 = true ∧ inRange 30 3 1 255 32 = true ∧ inRange 31 3 1 255 32 = false ∧
     inRange 30 4 1 255 32 = false ∧ inRange 30 3 2 255 32 = false ∧ inRange 30 3 1 0 32 = false ∧
     inRange 30 3 1 255 33 = false ∧ ¬(∃ n ∈ findNode 2 s, n.state ≠ .dismissing) ∧
     (∃ n ∈ findNode 1 s, n.state ≠ .dismissing) ∧ (∃ n ∈ findNode 30 s, n.state ≠ .dismissing) ∧
     (∃ p ∈ s.pipes, p.node = 1 ∧ p.number = 0) ∧ ¬(∃ p ∈ s.pipes, p.node = 30 ∧ p.number = 3) ∧
     findPipe 1 s = none ∧ ∀ g < 1, findPipe g s ≠ none) ∧
    (let s := runningPart [nodeAt 1 5 .enrolled 0] ((List.range 48).map fun h => pipeAt h 9 0 .inbound .active []) []
     ∀ h < 48, findPipe h s ≠ none) ∧
    (let s := runningPart [nodeAt 1 5 .enrolled 0] ((List.range 47).map fun h => pipeAt h 9 0 .inbound .active []) []
     findPipe 47 s = none ∧ ∀ g < 47, findPipe g s ≠ none) := by decide +kernel

theorem witness_ClosePipeRemovesOrWaits :
    (let closing := pipeAt 3 9 0 .inbound .closing []
     let s := fetching inPipe (runningPart [nodeAt 9 1 .enrolled 0] [inPipe, closing, outPipe] [])
     Accepts 1 s ∧ 47 < (48 : Byte).toNat ∧ findPipe 1 s = none ∧ findPipe 3 s = some closing ∧
     closing.state = .closing ∧ findPipe 47 s = some outPipe ∧ outPipe.state ≠ .closing ∧
     (∀ t ∈ s.txn, t.entry ≠ .pipe 47) ∧ findPipe 0 s = some inPipe ∧ inPipe.state ≠ .closing ∧
     s.txn.map (·.entry) = some (.pipe inPipe.handle)) := by decide

theorem witness_ResumePipeByState :
    (let p := fun (h : Nat) (state : PipeState) (mark : Bool) => { pipeAt h 9 0 .inbound state [] with clearNeeded := mark }
     let s := runningPart [] [p 0 .closing false, p 1 .halted false, p 2 .faulted true, p 3 .faulted false,
       p 4 .clearing false, p 47 .active false] []
     Accepts 1 s ∧ 47 < (48 : Byte).toNat ∧ findPipe 5 s = none ∧ findPipe 0 s = some (p 0 .closing false) ∧
     findPipe 1 s = some (p 1 .halted false) ∧ findPipe 2 s = some (p 2 .faulted true) ∧
     findPipe 3 s = some (p 3 .faulted false) ∧ findPipe 4 s = some (p 4 .clearing false) ∧
     findPipe 47 s = some (p 47 .active false)) := by decide

/-- One byte and 64 bytes of data, a quota just reached and just not, 8 and 9 blocks free. -/
theorem witness_SendQueuesOneBlock :
    (let empty := pipeAt 47 9 3 .outbound .active []
     let s := fun (p : Pipe) (free : List Block) => runningPart [] [inPipe, p] free
     Accepts 1 (s empty someBlocks) ∧ 1 ≤ ([7] : List Byte).length ∧ (List.replicate 64 (7 : Byte)).length ≤ 64 ∧
     47 < (48 : Byte).toNat ∧ findPipe 1 (s empty someBlocks) = none ∧
     findPipe 47 (s (pipeAt 47 9 3 .outbound .closing []) someBlocks) = some (pipeAt 47 9 3 .outbound .closing []) ∧
     findPipe 0 (s empty someBlocks) = some inPipe ∧ inPipe.state ≠ .closing ∧ inPipe.dir = .inbound ∧
     findPipe 47 (s outPipe someBlocks) = some outPipe ∧ outPipe.quota ≤ outPipe.queue.length ∧
     findPipe 47 (s empty someBlocks) = some empty ∧ empty.queue.length < empty.quota ∧
     (s empty (someBlocks.drop 1)).free.length ≤ 8 ∧ 8 < (s empty someBlocks).free.length ∧
     (s empty someBlocks).free = ⟨0, [], false, none⟩ :: someBlocks.tail) := by decide +kernel

/-- A queue of one block, and a recorded COLLECT whose block is retained, or released. -/
def collectPart (released : Bool) : State :=
  { runningPart [] [pipeAt 0 9 1 .inbound .active [⟨20, [1], false, none⟩], pipeAt 1 9 0 .inbound .closing [], outPipe]
      (if released then [⟨30, [1], false, none⟩] else []) with
    recent := [recordedQuery, recordedCollect released] }

theorem witness_CollectReleasesFirstAndTakesFromTheHead :
    (let one := pipeAt 0 9 1 .inbound .active [⟨20, [1], false, none⟩]
     let s := collectPart false
     Accepts 1 s ∧ ((0 : Byte).toNat = 0 ∨ 3 < (0 : Byte).toNat) ∧ ((4 : Byte).toNat = 0 ∨ 3 < (4 : Byte).toNat) ∧
     1 ≤ (1 : Byte).toNat ∧ (3 : Byte).toNat ≤ 3 ∧ 47 < (48 : Byte).toNat ∧ findPipe 2 s = none ∧
     findPipe 1 s = some (pipeAt 1 9 0 .inbound .closing []) ∧ findPipe 47 s = some outPipe ∧ outPipe.dir = .outbound ∧
     findPipe 0 s = some one ∧ one.state ≠ .closing ∧ one.dir = .inbound) := by decide +kernel

/-- Each way the release step goes, the last one on a part with a block to take. -/
theorem witness_CollectReleasesFirstAndTakesFromTheHead_release :
    (let s := collectPart false
     Releases 1 0 5 .notAsked s s ∧ Releases 1 1 5 .notFound s s ∧ Releases 1 1 1 .notFound s s ∧
     Releases 1 1 6 .released s (collectPart true)) :=
  ⟨.inl ⟨by decide, rfl, rfl⟩, .inr (.inl ⟨by decide, rfl, rfl, by decide⟩),
    .inr (.inl ⟨by decide, rfl, rfl, by decide⟩), .inr (.inr ⟨by decide, rfl, by decide, [recordedQuery],
      recordedCollect false, [], by decide +kernel, by decide, by decide, by decide, by decide, by decide +kernel⟩)⟩
theorem witness_CollectReleasesFirstAndTakesFromTheHead_windowTag : Releases 1 1 7 .notFound windowed windowed :=
  .inr (.inl ⟨by decide, rfl, rfl, by decide⟩)

theorem witness_FlushEmptiesTheQueue :
    (let still := pipeAt 46 9 2 .outbound .active [⟨22, [1], false, some 1⟩]
     let s := runningPart [] [inPipe, pipeAt 1 9 0 .inbound .closing [], still, outPipe] []
     Accepts 1 s ∧ 47 < (48 : Byte).toNat ∧ findPipe 2 s = none ∧
     findPipe 1 s = some (pipeAt 1 9 0 .inbound .closing []) ∧ findPipe 0 s = some inPipe ∧ inPipe.dir = .inbound ∧
     findPipe 46 s = some still ∧ (∀ b ∈ still.queue.head?, b.inFlight = false) ∧ findPipe 47 s = some outPipe ∧
     outPipe.queue = ⟨20, [1], true, some 0x44⟩ :: [⟨21, [2], false, none⟩]) := by decide

theorem witness_AckNoticesRemovesUpToTheNumber :
    (let s := { State.reset with notices := [⟨65535, .wakeSeen, true, false⟩, ⟨1, .wakeSeen, true, false⟩] }
     Accepts 1 s ∧ (∀ m ∈ s.notices, m.number ≠ (2 : Byte).toNat + 256 * (0 : Byte).toNat) ∧
     s.notices = [] ++ ⟨65535, .wakeSeen, true, false⟩ :: [⟨1, .wakeSeen, true, false⟩] ∧
     65535 = (255 : Byte).toNat + 256 * (255 : Byte).toNat ∧ s.missed = 0 ∧
     0 < ({ s with missed := 1 } : State).missed ∧ ([⟨1, .wakeSeen, true, false⟩] : List Notice).length < 16) := by decide

theorem witness_NoticeIsStoredOrMissed :
    (let s := fun (n : Nat) => { State.reset with notices := List.replicate n ⟨1, .wakeSeen, true, false⟩ }
     (s 15).notices.length < 16 ∧ 16 ≤ (s 16).notices.length) := by decide +kernel

theorem witness_TransmitterChoosesInOrder :
    (let idle := { State.reset with tx := none, notices := [] }
     let unsent : Notice := ⟨2, .wakeSeen, true, false⟩
     let sent : Notice := ⟨1, .wakeSeen, false, false⟩
     let again : QueuedReply := ⟨⟨0x92, 6, .ok, .collect 0 .notAsked 1 0⟩, true, false⟩
     State.reset.tx ≠ none ∧ idle.tx = none ∧
     ({ idle with refusal := some ⟨0x81, 7, .tagInUse, .none⟩ } : State).refusal = some ⟨0x81, 7, .tagInUse, .none⟩ ∧
     windowed.replyQueue = ⟨⟨0x82, 7, .ok, .none⟩, false, false⟩ :: [] ∧
     ({ idle with replyQueue := [again], recent := [recordedCollect false] } : State).recent.find?
       (fun x => x.tag == again.reply.tag) = some (recordedCollect false) ∧
     idle.refusal = none ∧ idle.replyQueue = [] ∧
     ({ idle with notices := [sent, unsent] } : State).notices = [sent] ++ unsent :: [] ∧
     (∀ m ∈ [sent], m.unsent = false) ∧ unsent.unsent = true ∧ (∀ m ∈ idle.notices, m.unsent = false)) := by decide +kernel

theorem witness_FrameEndsAndTheResendTimer :
    (let s := fun (kind : TxKind) => { windowed with tx := some ⟨kind, [0]⟩, resendTimer := true }
     (s .refusal).rstHigh = true ∧ (s .refusal).tx = some ⟨.refusal, [0]⟩ ∧ (s .reply).tx = some ⟨.reply, [0]⟩ ∧
     (s .reply).replyQueue = ⟨⟨0x82, 7, .ok, .none⟩, false, false⟩ :: [] ∧ (s (.notice 1)).tx = some ⟨.notice 1, [0]⟩ ∧
     (s .reply).resendTimer = true ∧ windowed.resendTimer = false) := by decide

theorem witness_RoundStartDoesItsFiveSteps :
    (let s := { runningPart [nodeAt 9 1 .enrolled 0, nodeAt 10 2 .lost 6] [inPipe, outPipe] [] with recallCountdown := 1 }
     s.rstHigh = true ∧ s.roundTimer = true ∧ s.recallCountdown ≤ 1 ∧ (s.pipes.map (·.handle)).Nodup ∧
     (s.nodes.map (·.addr)).Nodup) ∧
    State.reset.rstHigh = true ∧ State.reset.roundTimer = false ∧ 1 < ({ State.reset with recallCountdown := 2 }).recallCountdown := by
  decide

theorem witness_PipeEntryIsServedByState :
    (let s := fun (p : Pipe) (free : List Block) => { runningPart [nodeAt 9 1 .enrolled 0] [p] free with due := [.pipe p.handle] }
     let meets := fun (p : Pipe) (free : List Block) =>
       decide ((s p free).rstHigh = true ∧ (s p free).loop = .running ∧ (s p free).engine = .idle ∧
         (s p free).due = .pipe p.handle :: [] ∧ findPipe p.handle (s p free) = some p)
     meets (pipeAt 0 9 0 .inbound .clearing []) [] = true ∧ meets inPipe someBlocks = true ∧ meets inPipe [] = true ∧
     someBlocks = ⟨0, [], false, none⟩ :: someBlocks.tail ∧ meets outPipe [] = true ∧
     outPipe.queue = ⟨20, [1], true, some 0x44⟩ :: [⟨21, [2], false, none⟩] ∧
     meets (pipeAt 0 9 0 .inbound .halted []) [] = true ∧ meets (pipeAt 47 9 0 .outbound .active []) [] = true) := by
  decide

theorem witness_NodeAndSiftEntriesAreServed :
    (let s := fun (e : DueEntry) (sift : SiftUnit) =>
       { runningPart [nodeAt 1 5 .lost 6, nodeAt 30 7 .dismissing 0] [] [] with due := [e], sift := sift }
     let probing : SiftUnit := { idleSift with state := .probing, stack := [⟨0, 0⟩] }
     let assigning := fun (hd : Held) (stack : List Prefix) =>
       { idleSift with state := .assigning, held := some hd, stack := stack }
     let gone : Held := ⟨6, 1, .readopt, 0⟩
     State.reset.loop ≠ .running ∧ (s (.recall 1) idleSift).loop = .running ∧ (s (.recall 1) idleSift).engine = .idle ∧
     (s (.recall 1) idleSift).due = .recall 1 :: [] ∧
     findNode 1 (s (.recall 1) idleSift) = some (nodeAt 1 5 .lost 6) ∧
     findNode 30 (s (.dismiss 30) idleSift) = some (nodeAt 30 7 .dismissing 0) ∧
     (s .sift probing).sift.stack = ⟨0, 0⟩ :: [] ∧ (s .sift probing).sift.state = .probing ∧
     (s .sift (assigning ⟨9, 2, .new, 0⟩ [])).sift.held = some ⟨9, 2, .new, 0⟩ ∧
     (s .sift (assigning ⟨5, 1, .readopt, 0⟩ [])).sift.held = some ⟨5, 1, .readopt, 0⟩ ∧
     (∃ m ∈ (s .sift (assigning ⟨5, 1, .readopt, 0⟩ [])).nodes, m.addr = 1 ∧ m.identity = 5) ∧
     (s .sift (assigning gone [])).sift.held = some gone ∧ (s .sift (assigning gone [])).sift.stack = [] ∧
     (s .sift (assigning gone [⟨0, 0⟩])).sift.stack = ⟨0, 0⟩ :: [] ∧
     ∀ m ∈ (s .sift (assigning gone [])).nodes, m.addr = gone.addr → m.identity ≠ gone.identity) := by decide

theorem witness_CallEndOpensTheWindow :
    (let s := { fetching inPipe (runningPart [] [inPipe] []) with engine := .calling }
     s.rstHigh = true ∧ s.engine = .calling ∧ s.txn ≠ none) ∧
    ({ runningPart [] [] [] with engine := .turnaround } : State).engine = .turnaround := by decide

/-- The silence count just below and at the loss limit, 6; the tries just below and at the try limit, 3; a CLOSING pipe;
and a drain. -/
theorem witness_UnansweredPipeCall :
    (let p := fun (state : PipeState) (tries : Nat) => { pipeAt 0 9 1 .inbound state [] with tries := tries }
     let s := fun (state : PipeState) (silence tries : Nat) =>
       clearing (p state tries) (runningPart [nodeAt 9 1 .enrolled silence] [p state tries] [])
     let meets := fun (state : PipeState) (silence tries : Nat) => decide (
       (s state silence tries).rstHigh = true ∧ (s state silence tries).engine = .awaiting ∧
       (∀ t ∈ (s state silence tries).txn, t.heard = .nothing ∧ CallOn (p state tries) .clear t) ∧
       (s state silence tries).txn ≠ none ∧ findPipe 0 (s state silence tries) = some (p state tries) ∧
       findNode 9 (s state silence tries) = some (nodeAt 9 1 .enrolled silence))
     meets .clearing 5 0 = true ∧ (s .clearing 5 0).params.lossLimit ≤ min (5 + 1) 32 ∧
     meets .clearing 4 1 = true ∧ min (4 + 1) 32 < (s .clearing 4 1).params.lossLimit ∧
     1 + 1 < (s .clearing 4 1).params.tryLimit ∧ DueEntry.pipe 0 ∉ (s .clearing 4 1).due ∧
     meets .clearing 4 2 = true ∧ (s .clearing 4 2).params.tryLimit ≤ 2 + 1 ∧
     meets .closing 5 0 = true ∧ meets .closing 4 0 = true ∧
     ({ s .closing 4 0 with loop := .draining } : State).loop ≠ .running) := by decide

/-- Each way a FETCH ends GARBLED: an answer found unacceptable before, bytes that are no frame, a DATA whose check is
wrong, and an answer cut off by the limit. -/
theorem witness_GarbledPipeCall :
    (let p := fun (state : PipeState) (tries : Nat) => { pipeAt 0 9 1 .inbound state [] with tries := tries }
     let s : Heard → PipeState → Nat → State := fun heard state tries =>
       { fetching (p state tries) (runningPart [nodeAt 9 1 .enrolled 0] [p state tries] []) with
         txn := some ⟨.pipe 0, .fetch, 9, 9, 1, false, [], none, none, 200, heard, none⟩ }
     let meets := fun (heard : Heard) (state : PipeState) (tries : Nat) => decide (
       (s heard state tries).rstHigh = true ∧ (s heard state tries).engine = .awaiting ∧
       (∀ t ∈ (s heard state tries).txn, CallOn (p state tries) .fetch t ∧ t.heard = heard ∧
         (readLoop ⟨[1], none⟩).bind (classify t) = none ∧
         (readLoop ⟨[0x20, 9, 1, 2, 5, 6, 0, 0], none⟩).bind (classify t) = none) ∧
       (s heard state tries).txn ≠ none ∧ findPipe 0 (s heard state tries) = some (p state tries))
     meets .unacceptable .active 1 = true ∧ meets .nothing .active 1 = true ∧ meets .activity .active 1 = true ∧
     storedPayload [0x20, 9, 1, 2, 5, 6, 0, 0] = [5, 6] ∧ storedPayload [1] = [] ∧
     1 + 1 < (s .nothing .active 1).params.tryLimit ∧ DueEntry.pipe 0 ∉ (s .nothing .active 1).due ∧
     meets .activity .active 2 = true ∧ (s .activity .active 2).params.tryLimit ≤ 2 + 1 ∧
     meets .activity .closing 0 = true) := by decide +kernel

/-- A DATA of 64 and of 65 bytes. -/
theorem witness_LoopFrameIsReadAsItWasSent :
    (nodeFrame 0x20 9 0x81 [5]).bytes = 0x20 :: 9 :: 0x81 :: 1 :: 5 :: bytesOfCheck (crcOf [0x20, 9, 0x81, 1, 5]) ∧
    storedPayload (0x20 :: 9 :: 0x81 :: 64 :: List.replicate 70 7) = List.replicate 64 7 ∧
    storedPayload (0x20 :: 9 :: 0x81 :: 65 :: List.replicate 70 7) = [] ∧
    storedPayload [0x20, 9, 0x81, 2, 7] = [7] := by decide +kernel

/-- A FETCH that hears a DATA of 1 and of 64 bytes. -/
theorem witness_DataIsConfirmed :
    (let s := fetching inPipe (runningPart [nodeAt 9 1 .enrolled 0] [inPipe] [])
     s.rstHigh = true ∧ s.engine = .awaiting ∧ s.txn ≠ none ∧
     (∀ t ∈ s.txn, t.heard ≠ .unacceptable ∧ t.call = .fetch ∧ AnswersFrom t 9 0x81 ∧ AnswersFrom t 9 0x01) ∧
     1 ≤ ([7] : List Byte).length ∧ (List.replicate 64 (7 : Byte)).length ≤ 64) := by decide +kernel

theorem witness_ConfirmEndsTheFetch :
    (let p := fun (state : PipeState) (mark : Bool) => { inPipe with state := state, waitingReported := mark }
     let s : PipeState → Bool → Bool → Nat → State := fun state accepted mark count =>
       { fetching inPipe (runningPart [nodeAt 9 1 .enrolled 3] [p state mark] []) with
         engine := .confirming
         notices := List.replicate count ⟨1, .wakeSeen, false, false⟩
         txn := some ⟨.pipe 0, .fetch, 9, 9, 1, false, [], none, none, 200, .nothing, some ⟨accepted, true⟩⟩ }
     let meets := fun (state : PipeState) (accepted mark : Bool) (count : Nat) => decide (
       (s state accepted mark count).rstHigh = true ∧ (s state accepted mark count).engine = .confirming ∧
       (∀ t ∈ (s state accepted mark count).txn, CallOn (p state mark) .fetch t ∧ t.verdict = some ⟨accepted, true⟩) ∧
       (s state accepted mark count).txn ≠ none ∧
       (s state accepted mark count).catchSlot = some ⟨95, [], false, none⟩ ∧
       findPipe 0 (s state accepted mark count) = some (p state mark))
     meets .active true true 0 = true ∧ meets .active true false 15 = true ∧
     (s .active true false 15).notices.length < 16 ∧ meets .active true false 16 = true ∧
     16 ≤ (s .active true false 16).notices.length ∧ meets .active false false 0 = true ∧
     meets .closing true false 0 = true ∧ meets .closing false false 0 = true) := by decide +kernel

theorem witness_TakenFreesTheHead :
    (let p := fun (state : PipeState) => { outPipe with state := state }
     let s := fun (state : PipeState) => delivering outPipe (runningPart [nodeAt 9 1 .enrolled 3] [p state] [])
     let meets := fun (state : PipeState) => decide ((s state).txn ≠ none ∧
       (∀ t ∈ (s state).txn, Hearing t (s state) ∧ CallOn (p state) .deliver t ∧ AnswersFrom t 9 0x03 ∧
         (0x03 : Byte).getLsbD 7 = t.seq) ∧
       findPipe 47 (s state) = some (p state) ∧
       (p state).queue = ⟨20, [1], true, some 0x44⟩ :: [⟨21, [2], false, none⟩])
     meets .active = true ∧ meets .closing = true) := by decide

theorem witness_HoldRefuseAndClearedSettleThePipe :
    (let part := fun (p : Pipe) => runningPart [nodeAt 9 1 .enrolled 3] [p] []
     let meets := fun (s : State) (p : Pipe) (call : CallKind) (pipeSeq : Byte) => decide (s.txn ≠ none ∧
       (∀ t ∈ s.txn, Hearing t s ∧ CallOn p call t ∧ AnswersFrom t 9 pipeSeq) ∧ findPipe p.handle s = some p)
     (∀ state ∈ [PipeState.active, .closing],
       (let p := pipeAt 0 9 1 .inbound state []
        meets (fetching p (part p)) p .fetch 0x01 = true) ∧
       (let p := { outPipe with state := state }
        meets (delivering p (part p)) p .deliver 0x03 = true)) ∧
     (∀ state ∈ [PipeState.clearing, .closing],
       let p := pipeAt 0 9 1 .inbound state []
       meets (clearing p (part p)) p .clear 0x01 = true)) := by decide

/-- A FETCH that hears another node, another pipe, an empty DATA or another call's answer; a DELIVER that hears the other
bit; a PROBE that hears an identity outside its prefix; a PING and an ASSIGN that hear another identity. -/
theorem witness_UnacceptableAnswerWaitsForQuiet :
    (let s := fetching inPipe (runningPart [nodeAt 9 1 .enrolled 3] [inPipe] [])
     s.txn ≠ none ∧ ([] : List Byte).length ≤ 64 ∧ (List.replicate 64 (7 : Byte)).length ≤ 64 ∧
     (∀ t ∈ s.txn, Hearing t s ∧ t.call = .fetch ∧ (8 : Byte).toNat ≠ t.answerFrom ∧ pipeNumberOf 0x02 ≠ t.pipe ∧
       (9 : Byte).toNat = t.answerFrom ∧ t.call ≠ .deliver ∧ t.call ≠ .clear ∧ t.call ≠ .ping ∧ t.call ≠ .dismiss ∧
       t.call ≠ .probe ∧ t.call ≠ .assign)) ∧
    (let s := delivering outPipe (runningPart [nodeAt 9 1 .enrolled 3] [outPipe] [])
     s.txn ≠ none ∧ ∀ t ∈ s.txn, Hearing t s ∧ t.call = .deliver ∧ (0x83 : Byte).getLsbD 7 ≠ t.seq ∧ t.call ≠ .fetch) ∧
    (let s := calling .sift .probe 0 0 none (some ⟨1, 0⟩) (runningPart [] [] [])
     s.txn ≠ none ∧ ∀ t ∈ s.txn, Hearing t s ∧ t.call = .probe ∧
       ((payloadIdent (bytesOfIdent 0x80000000)).bind fun i => t.probed.map fun p => prefixCovers p i) ≠ some true) ∧
    (let s := calling (.recall 9) .ping 9 9 (some 7) none (runningPart [nodeAt 9 7 .lost 6] [] [])
     s.txn ≠ none ∧ ∀ t ∈ s.txn, Hearing t s ∧ t.call = .ping ∧ payloadIdent (bytesOfIdent 8) ≠ t.identity) ∧
    (let s := calling .sift .assign 0 1 (some 5) none (runningPart [] [] [])
     s.txn ≠ none ∧ ∀ t ∈ s.txn, Hearing t s ∧ t.call = .assign ∧ payloadIdent (bytesOfIdent 8) ≠ t.identity) :=
  ⟨by decide +kernel, by decide, by decide, by decide, by decide⟩

theorem witness_PresentAndDismissedSettleTheNode :
    (let part := runningPart [nodeAt 1 5 .lost 6, nodeAt 9 7 .dismissing 0] [inPipe, outPipe] []
     let pinged := calling (.recall 1) .ping 1 1 (some 5) none part
     let dismissed := calling (.dismiss 9) .dismiss 9 9 none none part
     (∀ t ∈ pinged.txn, Hearing t pinged ∧ t.entry = .recall 1 ∧ t.call = .ping ∧ (1 : Byte).toNat = t.answerFrom ∧
       t.identity = some 5) ∧ pinged.txn ≠ none ∧ pinged.loop = .running ∧
     findNode 1 pinged = some (nodeAt 1 5 .lost 6) ∧
     (∀ t ∈ dismissed.txn, Hearing t dismissed ∧ t.entry = .dismiss 9 ∧ t.call = .dismiss ∧
       (9 : Byte).toNat = t.answerFrom) ∧ dismissed.txn ≠ none ∧
     findNode 9 dismissed = some (nodeAt 9 7 .dismissing 0) ∧ (dismissed.pipes.map (·.handle)).Nodup) := by decide

theorem witness_DeferredReplyIsComposed :
    (let e : WindowEntry := ⟨8, 0x0A, 2, .siftUnit, .deferred .sift⟩
     let first : WindowEntry := ⟨7, 0x02, 1, .hostPort, .replyQueued⟩
     State.reset.loopSlot = none ∧
     ({ State.reset with loopSlot := some ⟨.reset, 1, 2⟩ } : State).loopSlot = some ⟨.reset, 1, 2⟩ ∧
     windowed.window = [first] ++ e :: [] ∧ e.state = .deferred .sift ∧
     ∀ x ∈ [first], x.state ≠ .deferred .sift ∧ x.tag ≠ e.tag) := by decide

/-- A known identity, an unknown one with address 30 the only free one, and none free. -/
theorem witness_IdentChoosesTheAddress :
    (let s := fun (barred : List Nat) => { calling .sift .probe 0 0 none (some ⟨1, 0⟩)
       (runningPart [nodeAt 1 5 .lost 6] [] []) with barred := barred, sift := { idleSift with state := .probing } }
     let unusable := fun (t : State) (a : Nat) => decide (findNode a t ≠ none ∨ a ∈ t.barred)
     (∀ t ∈ (s []).txn, Hearing t (s []) ∧ t.entry = .sift ∧ t.call = .probe ∧ t.answerFrom = 0 ∧
       t.probed = some ⟨1, 0⟩) ∧ (s []).txn ≠ none ∧ (s []).loop = .running ∧ prefixCovers ⟨1, 0⟩ 5 = true ∧
     prefixCovers ⟨1, 0⟩ 6 = true ∧ (s []).nodes.find? (fun m => m.identity == 5) = some (nodeAt 1 5 .lost 6) ∧
     (∀ m ∈ (s []).nodes, m.identity ≠ 6) ∧ unusable (s (List.range' 2 28)) 30 = false ∧
     (∀ b < 29, unusable (s (List.range' 2 28)) (b + 1) = true) ∧
     (∀ b < 30, unusable (s (List.range' 2 29)) (b + 1) = true)) := by decide +kernel

theorem witness_ProbeOutcomesDriveTheSearch :
    (let s := fun (p : Prefix) => { calling .sift .probe 0 0 none (some p) (runningPart [] [] []) with
       sift := { idleSift with state := .probing } }
     let meets := fun (p : Prefix) => decide ((s p).rstHigh = true ∧ (s p).loop = .running ∧ (s p).engine = .awaiting ∧
       (s p).txn ≠ none ∧ ∀ t ∈ (s p).txn, t.entry = .sift ∧ t.call = .probe ∧ t.probed = some p ∧ t.heard = .nothing ∧
         (readLoop ⟨[1], none⟩).bind (classify t) = none)
     meets ⟨0, 0⟩ = true ∧ meets ⟨31, 0⟩ = true ∧ meets ⟨32, 0⟩ = true ∧ ([1] : List Byte) ≠ []) := by decide

/-- A new node, a record found again, and a record that is gone, with and without a prefix left on the stack. -/
theorem witness_AdoptedEnrolsTheNode :
    (let s := fun (hd : Held) (stack : List Prefix) => { calling .sift .assign 0 hd.addr (some hd.identity) none
       (runningPart [nodeAt 9 7 .lost 6] [{ inPipe with state := .halted }, outPipe] []) with
       sift := { idleSift with state := .assigning, held := some hd, stack := stack } }
     let meets := fun (addr : Byte) (hd : Held) (stack : List Prefix) => decide ((s hd stack).sift.held = some hd ∧
       (s hd stack).txn ≠ none ∧ ∀ t ∈ (s hd stack).txn, Hearing t (s hd stack) ∧ t.entry = .sift ∧
         t.call = .assign ∧ t.probed = none ∧ t.answerFrom = addr.toNat ∧ t.identity = some hd.identity)
     meets 1 ⟨5, 1, .new, 0⟩ [⟨1, 0⟩] = true ∧ meets 1 ⟨5, 1, .new, 0⟩ [] = true ∧
     meets 9 ⟨7, 9, .readopt, 0⟩ [] = true ∧
     (s ⟨7, 9, .readopt, 0⟩ []).nodes.find? (fun m => m.addr == 9 && m.identity == 7) = some (nodeAt 9 7 .lost 6) ∧
     meets 9 ⟨8, 9, .readopt, 0⟩ [] = true ∧
     ∀ m ∈ (s ⟨8, 9, .readopt, 0⟩ []).nodes, m.addr = 9 → m.identity ≠ 8) := by decide

/-- Dismiss tries and assign tries just below the try limit, 3, and at it; a READOPT whose record is gone. -/
theorem witness_FailedNodeCallsAreRetriedToTheLimit :
    (let node := fun (tries : Nat) => { nodeAt 9 7 .dismissing 0 with dismissTries := tries }
     let dismissed := fun (tries : Nat) => calling (.dismiss 9) .dismiss 9 9 none none (runningPart [node tries] [inPipe] [])
     let pinged := calling (.recall 9) .ping 9 9 (some 7) none (runningPart [nodeAt 9 7 .lost 6] [] [])
     let assigned := fun (hd : Held) => { calling .sift .assign 0 hd.addr (some hd.identity) none
       (runningPart [nodeAt 9 7 .lost 6] [] []) with
       sift := { idleSift with state := .assigning, held := some hd } }
     let awaits := fun (s : State) (entry : DueEntry) (call : CallKind) => decide (s.rstHigh = true ∧
       s.engine = .awaiting ∧ s.txn ≠ none ∧
       ∀ t ∈ s.txn, t.heard = .nothing ∧ t.entry = entry ∧ t.call = call ∧ t.probed = none ∧
         (readLoop ⟨[1], some 0⟩).bind (classify t) = none)
     awaits pinged (.recall 9) .ping = true ∧ awaits (dismissed 1) (.dismiss 9) .dismiss = true ∧
     findNode 9 (dismissed 1) = some (node 1) ∧ 1 + 1 < (dismissed 1).params.tryLimit ∧
     DueEntry.dismiss 9 ∉ (dismissed 1).due ∧ findNode 9 (dismissed 2) = some (node 2) ∧
     (dismissed 2).params.tryLimit ≤ 2 + 1 ∧ awaits (assigned ⟨5, 1, .new, 1⟩) .sift .assign = true ∧
     (assigned ⟨5, 1, .new, 1⟩).sift.held = some ⟨5, 1, .new, 1⟩ ∧ 1 + 1 < (assigned ⟨5, 1, .new, 1⟩).params.tryLimit ∧
     DueEntry.sift ∉ (assigned ⟨5, 1, .new, 1⟩).due ∧
     (assigned ⟨7, 9, .readopt, 2⟩).params.tryLimit ≤ 2 + 1 ∧ 9 ∉ (assigned ⟨7, 9, .readopt, 2⟩).barred ∧
     (∃ m ∈ (assigned ⟨7, 9, .readopt, 2⟩).nodes, m.addr = 9 ∧ m.identity = 7) ∧
     awaits (assigned ⟨8, 9, .readopt, 0⟩) .sift .assign = true ∧
     ∀ m ∈ (assigned ⟨8, 9, .readopt, 0⟩).nodes, m.addr = 9 → m.identity ≠ 8) := by decide

theorem witness_SettleEndsTheLineReset :
    (let s := fun (phase : LinePhase) (level resume : Bool) =>
       { State.reset with loop := .resetting, phase := phase, lineDominant := level, resume := resume }
     (s .resetDrive true false).rstHigh = true ∧ (s .resetDrive true false).phase = .resetDrive ∧
     (s .resetSettle true false).lineDominant = true ∧ (s .resetSettle false true).resume = true ∧
     (s .resetSettle false false).phase = .resetSettle ∧ (s .resetSettle false false).resume = false) := by decide

/-- Levels of 999, 1000, 8000 and 8001 microseconds, and each loop state that watches. -/
theorem witness_LineLevelIsMeasured :
    (let s := fun (loop : LoopState) (phase : LinePhase) =>
       { State.reset with loop := loop, phase := phase, lineDominant := true }
     State.reset.rstHigh = true ∧ State.reset.lineDominant = false ∧ State.reset.engine ≠ .awaiting ∧
     (fetching inPipe State.reset).engine = .awaiting ∧ (fetching inPipe State.reset).txn ≠ none ∧
     (s .resting .quiet).lineDominant = true ∧ (s .resting .quiet).loop = .resting ∧ 999 < 1000 ∧ 8000 < 8001 ∧
     1000 ≤ 1000 ∧ 8000 ≤ 8000 ∧ (s .waking .wakeWait).phase = .wakeWait ∧
     (s .resetting .settleExtended).phase = .settleExtended ∧ (s .waking .wakeFrame).phase ≠ .wakeWait ∧
     (s .resetting .resetSettle).phase ≠ .settleExtended) := by decide

/-- Nothing in flight; and each transaction that a fault can abandon: a FETCH before and after its DATA is accepted, on a
pipe that is CLOSING and on one that is not, a PING, and an ASSIGN. -/
theorem witness_LineFaultStopsTheLoop :
    State.reset.rstHigh = true ∧ State.reset.domTimer = false ∧
    (let part := { runningPart [nodeAt 9 1 .enrolled 0] [inPipe, outPipe] [] with lineDominant := true, domTimer := true }
     let meets := fun (s : State) => decide (s.rstHigh = true ∧ s.domTimer = true ∧ (s.nodes.map (·.addr)).Nodup ∧
       (s.pipes.map (·.handle)).Nodup)
     (meets part = true ∧ part.txn = none ∧ part.sift.state = .idle ∧ part.loopSlot = none ∧
       ∀ n ∈ part.nodes, n.state ≠ .dismissing) ∧
     (∀ state ∈ [PipeState.active, .closing], ∀ verdict ∈ [none, some ⟨true, true⟩, some ⟨false, true⟩],
       let p := pipeAt 0 9 1 .inbound state []
       let s := { fetching p { part with pipes := [p, outPipe] } with
         txn := some ⟨.pipe 0, .fetch, 9, 9, 1, false, [], none, none, 200, .nothing, verdict⟩ }
       meets s = true ∧ (∀ t ∈ s.txn, CallOn p .fetch t) ∧ findPipe 0 s = some p ∧
         s.catchSlot = some ⟨95, [], false, none⟩) ∧
     (let s := calling (.recall 9) .ping 9 9 (some 1) none part
      meets s = true ∧ ∀ t ∈ s.txn, t.verdict = none ∧ t.call ≠ .fetch ∧ t.entry = .recall 9) ∧
     (let s := { calling .sift .assign 0 1 (some 5) none part with
        sift := { idleSift with state := .assigning, held := some ⟨5, 1, .new, 0⟩ } }
      meets s = true ∧ s.sift.held = some ⟨5, 1, .new, 0⟩ ∧
        ∀ t ∈ s.txn, t.verdict = none ∧ t.call = .assign ∧ t.entry = .sift ∧ t.probed = none)) := by decide

/-- A part with a FETCH in flight, its catch block taken from the pool, a COLLECT recorded and two notices held. -/
def busyPart : State :=
  { fetching inPipe (runningPart [nodeAt 9 1 .enrolled 0] [inPipe] ((freshPool.take 95).erase ⟨30, [], false, none⟩)) with
    pending := [.data 9 0x01 [7]]
    recent := [recordedQuery, recordedCollect false]
    window := [⟨6, 0x12, 5, .blockPool, .replyQueued⟩]
    notices := [⟨65535, .wakeSeen, false, false⟩, ⟨1, .pipeReady 0, true, false⟩]
    nextNumber := 2 }

theorem witness_StepKeepsEveryBlockInOnePlace : PoolConsistent busyPart ∧ ∃ t, step busyPart = .next t :=
  ⟨by decide +kernel, exec_next (.data 9 0x01 [7]) { busyPart with pending := [] }⟩
theorem witness_StepKeepsTheRequestTables : TablesConsistent busyPart ∧ ∃ t, step busyPart = .next t :=
  ⟨by decide +kernel, exec_next (.data 9 0x01 [7]) { busyPart with pending := [] }⟩
theorem witness_StepKeepsNoticeNumbersConsecutive : NoticesConsistent busyPart ∧ ∃ t, step busyPart = .next t :=
  ⟨by decide +kernel, exec_next (.data 9 0x01 [7]) { busyPart with pending := [] }⟩
theorem witness_StepKeepsTheDueListDistinct : busyPart.due.Nodup ∧ ∃ t, step busyPart = .next t :=
  ⟨by decide +kernel, exec_next (.data 9 0x01 [7]) { busyPart with pending := [] }⟩
theorem witness_StepKeepsTheLoopConsistent : LoopConsistent busyPart ∧ ∃ t, step busyPart = .next t :=
  ⟨by decide +kernel, exec_next (.data 9 0x01 [7]) { busyPart with pending := [] }⟩
theorem witness_StepKeepsTheCountsBounded : CountsBounded busyPart ∧ ∃ t, step busyPart = .next t :=
  ⟨by decide +kernel, exec_next (.data 9 0x01 [7]) { busyPart with pending := [] }⟩
theorem witness_StepKeepsThePipeTable : PipesConsistent busyPart ∧ ∃ t, step busyPart = .next t :=
  ⟨by decide +kernel, exec_next (.data 9 0x01 [7]) { busyPart with pending := [] }⟩
theorem witness_StepKeepsTheNodeTable : NodesConsistent busyPart ∧ ∃ t, step busyPart = .next t :=
  ⟨by decide +kernel, exec_next (.data 9 0x01 [7]) { busyPart with pending := [] }⟩

end Sys2Proof.Tests
end

section
/-! FLUSH (R14): which blocks it keeps and takes by direction, each refusal in the order of the checks, and the state an
accepted FLUSH leaves. First the general rules it rests on: an update reads only the record it finds, and an owner's
effect on the pool may be taken before or after its request enters the window. -/

namespace Sys2Proof.Machine

/-! ## Tables -/

/-- Two updates that agree on the first record hit are the same update. -/
theorem updFirst_congr {α : Type} {hit : α → Bool} {f g : α → α} {x : α} {xs : List α} (hx : xs.find? hit = some x)
    (hfg : f x = g x) : updFirst hit f xs = updFirst hit g xs := by
  induction xs with
  | nil => rfl
  | cons y ys ih =>
    by_cases hy : hit y = true
    · obtain rfl : y = x := by simpa [hy] using hx
      simp [updFirst, hy, hfg]
    · simpa [updFirst, hy] using ih (by simpa [hy] using hx)

/-- R22: a handle up to 47 lies within the pipe table. -/
theorem not_maxPipes_le {n : Nat} (h : n ≤ 47) : ¬Config.maxPipes ≤ n := Nat.not_le.2 (Nat.lt_succ_of_le h)

/-- R22: the pipe found by a handle bears it. -/
theorem handle_of_findPipe {h : Nat} {p : Pipe} {s : State} (hp : findPipe h s = some p) : p.handle = h := by
  simpa using List.find?_some hp

/-- A pipe's update reads that pipe's record alone. -/
theorem updPipe_congr {h : Nat} {f g : Pipe → Pipe} {p : Pipe} {s : State} (hp : findPipe h s = some p)
    (hfg : f p = g p) : updPipe h f s = updPipe h g s := by
  rw [updPipe, updPipe, updFirst_congr hp hfg]

/-! ## The window during an owner's effect -/

/-- R140, case 7: no request in the window bears the tag of one that is accepted. -/
theorem window_tag_ne_of_accepts {tag : Byte} {s : State} (h : Accepts tag s) : ∀ w ∈ s.window, w.tag ≠ tag := by
  obtain ⟨_, _, hw, _⟩ := h
  exact hw

/-- A change of a pipe's record does not look at the window. -/
theorem updPipe_taken (kind tag : Byte) (fields : List Byte) (h : Nat) (f : Pipe → Pipe) (s : State) :
    updPipe h f (taken kind tag fields s) = taken kind tag fields (updPipe h f s) := rfl

/-- R155, R157: a notice asked for does not look at the window. -/
theorem notify_taken (kind tag : Byte) (fields : List Byte) (b : NoticeBody) (s : State) :
    notify b (taken kind tag fields s) = taken kind tag fields (notify b s) := by
  have hfits : noticeFits (taken kind tag fields s) = noticeFits s := rfl
  rw [notify, notify, hfits]
  split <;> rfl

/-- R18: discarding blocks does not look at the window. -/
theorem discardBlocks_taken (kind tag : Byte) (fields : List Byte) (h : Nat) (bs : List Block) (s : State) :
    discardBlocks h bs (taken kind tag fields s) = taken kind tag fields (discardBlocks h bs s) := by
  rw [discardBlocks_eq, discardBlocks_eq]
  exact forEach_comm (notify_taken kind tag fields) _ { s with free := s.free ++ bs.map Block.release }

/-- R18: discarding blocks leaves the window as it was. -/
@[simp] theorem discardBlocks_window (h : Nat) (bs : List Block) (s : State) :
    (discardBlocks h bs s).window = s.window := by
  rw [discardBlocks_eq]
  exact forEach_keeps (P := fun u => u.window = s.window) (fun b u hu => (notify_window b u).trans hu) _ rfl

/-! ## What FLUSH keeps and takes -/

/-- R14: an IN pipe's queue is emptied. -/
theorem flushKeeps_inbound {p : Pipe} (hd : p.dir = .inbound) : flushKeeps p = [] := by
  simp [flushKeeps, hd]

/-- R14: an OUT pipe's queue is emptied where its head is not in flight. -/
theorem flushKeeps_outbound_idle {p : Pipe} (hd : p.dir = .outbound) (hq : ∀ b ∈ p.queue.head?, b.inFlight = false) :
    flushKeeps p = [] := by
  cases h : p.queue with
  | nil => simp [flushKeeps, hd, h]
  | cons b rest => simp [flushKeeps, hd, h, hq b (by simp [h])]

/-- R14: an outbound head in flight stays. -/
theorem flushKeeps_outbound_inFlight {p : Pipe} {b : Block} {rest : List Block} (hd : p.dir = .outbound)
    (hq : p.queue = b :: rest) (hb : b.inFlight = true) : flushKeeps p = [b] := by
  simp [flushKeeps, hd, hq, hb]

/-- R14: the blocks taken are those behind the ones kept. -/
theorem flushTakes_of_queue {p : Pipe} {kept gone : List Block} (hk : flushKeeps p = kept) (hq : p.queue = kept ++ gone) :
    flushTakes p = gone := by
  rw [flushTakes, hk, hq, List.drop_left]

/-! ## FLUSH -/

/-- R14: the first check, the range of the handle. -/
theorem requestFlush_badField {tag handle : Byte} {s : State} (hh : 47 < handle.toNat) :
    requestFlush tag handle s = answer tag .badField (.flush 0) s :=
  if_pos hh

/-- R14: the second check, that the handle names a pipe. -/
theorem requestFlush_noPipe {tag handle : Byte} {s : State} (hh : handle.toNat ≤ 47)
    (hp : findPipe handle.toNat s = none) : requestFlush tag handle s = answer tag .noPipe (.flush 0) s := by
  rw [requestFlush, if_neg (not_maxPipes_le hh), hp]

/-- R14: the third check, that the pipe is not CLOSING. -/
theorem requestFlush_closing {tag handle : Byte} {p : Pipe} {s : State} (hh : handle.toNat ≤ 47)
    (hp : findPipe handle.toNat s = some p) (hc : p.state = .closing) :
    requestFlush tag handle s = answer tag .pipeState (.flush 0) s := by
  rw [requestFlush, if_neg (not_maxPipes_le hh), hp]
  exact if_pos hc

/-- R14: a FLUSH that passes its checks: queue and mark are set to values read from the record found. -/
theorem requestFlush_ok {tag handle : Byte} {p : Pipe} {s : State} (hh : handle.toNat ≤ 47)
    (hp : findPipe handle.toNat s = some p) (hc : p.state ≠ .closing) :
    requestFlush tag handle s = answer tag .ok (.flush (flushTakes p).length)
      (discardBlocks handle.toNat (flushTakes p) (updPipe handle.toNat (fun q =>
        { q with
          queue := flushKeeps p
          waitingReported := if p.dir = .inbound then false else p.waitingReported }) s)) := by
  rw [requestFlush, if_neg (not_maxPipes_le hh), hp]
  dsimp only
  rw [if_neg hc, handle_of_findPipe hp]
  congr 2
  exact updPipe_congr hp rfl

/-- R139, R142: a new FLUSH request reaches the pool, and the transmitter then chooses. -/
theorem exec_flush {tag handle : Byte} {s : State} (h : Accepts tag s) :
    exec (.flush tag [handle]) s = .next (kickTx (requestFlush tag handle (taken kindFlush tag [handle] s))) :=
  exec_request (c := .flush tag [handle]) (kind := kindFlush) (fields := [handle]) rfl rfl h
    fun hr => List.cons_ne_nil _ _ hr.2

/-- R14, R142: a FLUSH that the pool refuses changes no queue. -/
theorem exec_flush_refused {tag handle : Byte} {code : Code} {s : State} (h : Accepts tag s)
    (hr : requestFlush tag handle (taken kindFlush tag [handle] s) =
      answer tag code (.flush 0) (taken kindFlush tag [handle] s)) :
    exec (.flush tag [handle]) s = .next (kickTx (answered 0x13 tag [handle] code (.flush 0) [] s)) := by
  rw [exec_flush h, hr, answer_taken (window_tag_ne_of_accepts h)]
  rfl

/-- R14: the state an accepted FLUSH leaves, for the blocks it keeps, the blocks it takes and the mark it sets. -/
theorem exec_flush_ok {tag handle : Byte} {p : Pipe} {s : State} {kept gone : List Block} {mark : Bool}
    (h : Accepts tag s) (hh : handle.toNat ≤ 47) (hp : findPipe handle.toNat s = some p) (hc : p.state ≠ .closing)
    (hk : flushKeeps p = kept) (hq : p.queue = kept ++ gone)
    (hm : (if p.dir = .inbound then false else p.waitingReported) = mark) :
    exec (.flush tag [handle]) s = .next (kickTx (answered 0x13 tag [handle] .ok (.flush gone.length) []
      (forEach notify (discardNotices handle.toNat gone)
        (updPipe handle.toNat (fun q => { q with queue := kept, waitingReported := mark })
          { s with free := s.free ++ gone.map Block.release })))) := by
  rw [exec_flush h, requestFlush_ok (s := taken kindFlush tag [handle] s) hh hp hc, flushTakes_of_queue hk hq, hk, hm,
    updPipe_taken, discardBlocks_taken, answer_taken (by simpa using window_tag_ne_of_accepts h), discardBlocks_eq]
  rfl

/-- Settles O25: the three refusals by the check that fails, and the three accepted cases by what `flushKeeps` is. -/
theorem flushEmptiesTheQueue : Obligations.FlushEmptiesTheQueue := by
  intro tag handle s h
  refine ⟨fun hh => ?badField, fun hh hp => ?noPipe, fun p hh hp => ⟨fun hc => ?closing, fun hc hd => ?inbound,
    fun hc hd hq => ?outboundIdle, fun b rest hc hd hq hb => ?outboundInFlight⟩⟩
  case badField => exact exec_flush_refused h (requestFlush_badField hh)
  case noPipe => exact exec_flush_refused h (requestFlush_noPipe hh hp)
  case closing => exact exec_flush_refused h (requestFlush_closing hh hp hc)
  case inbound => exact exec_flush_ok h hh hp hc (flushKeeps_inbound hd) rfl (if_pos hd)
  case outboundIdle => exact exec_flush_ok h hh hp hc (flushKeeps_outbound_idle hd hq) rfl (by simp [hd])
  case outboundInFlight =>
    exact exec_flush_ok h hh hp hc (flushKeeps_outbound_inFlight hd hq hb) hq (by simp [hd])

end Sys2Proof.Machine
end

section
/-! The Node Table's and Pipe Table's requests that are answered at once: READ-NODE and READ-PIPE (R38, R102), OPEN-PIPE
(R26) and RESUME-PIPE (R35). For each the answer of every check in order, and then the state an accepted one leaves. -/

namespace Sys2Proof.Machine

/-! ## Requests answered at once -/

/-- R139, R142: a request with fields whose owner changes the state to `s'`, the window kept, and answers. -/
theorem exec_answers {c : Instr} {kind tag : Byte} {fields : List Byte} {code : Code} {reply : ReplyFields}
    {s s' : State} (hc : requestOf c = some (kind, tag, fields)) (hf : fieldsFit fields = true) (hne : fields ≠ [])
    (h : Accepts tag s) (hw : s'.window = s.window)
    (hd : dispatch kind tag fields (taken kind tag fields s) = answer tag code reply (taken kind tag fields s')) :
    exec c s = .next (kickTx (answered kind tag fields code reply [] s')) := by
  rw [exec_request hc hf h fun hr => hne hr.2, hd, answer_taken (hw ▸ window_tag_ne_of_accepts h)]

/-! ## READ-NODE -/

/-- R87: the node found by an address is at it. -/
theorem addr_of_findNode {a : Nat} {n : Node} {s : State} (hn : findNode a s = some n) : n.addr = a := by
  simpa using List.find?_some hn

/-- R87: an address from 1 to 30 lies within the node table. -/
theorem not_address_out_of_range {a : Nat} (h1 : 1 ≤ a) (h30 : a ≤ 30) : ¬(a < 1 ∨ Config.maxNodes < a) :=
  not_or.2 ⟨Nat.not_lt.2 h1, Nat.not_lt.2 h30⟩

/-- R102: the first check, the range of the address. -/
theorem requestReadNode_badField {tag addr : Byte} {s : State} (ha : addr.toNat < 1 ∨ 30 < addr.toNat) :
    requestReadNode tag addr s = answer tag .badField (.readNode none 0 0 []) s := if_pos ha

/-- R102: the second check, a record at the address. -/
theorem requestReadNode_noNode {tag addr : Byte} {s : State} (h1 : 1 ≤ addr.toNat) (h30 : addr.toNat ≤ 30)
    (hn : findNode addr.toNat s = none) :
    requestReadNode tag addr s = answer tag .noNode (.readNode none 0 0 []) s := by
  rw [requestReadNode, if_neg (not_address_out_of_range h1 h30), hn]

/-- R102: READ-NODE reports the record found and the handles of the node's pipes. -/
theorem requestReadNode_ok {tag addr : Byte} {n : Node} {s : State} (h1 : 1 ≤ addr.toNat) (h30 : addr.toNat ≤ 30)
    (hn : findNode addr.toNat s = some n) :
    requestReadNode tag addr s =
      answer tag .ok (.readNode (some n.state) n.identity n.silence (handlesOf addr.toNat s)) s := by
  rw [requestReadNode, if_neg (not_address_out_of_range h1 h30), hn]
  dsimp only
  rw [addr_of_findNode hn]

/-- R102, R142: READ-NODE changes nothing but what its answer does. -/
theorem exec_readNode {tag addr : Byte} {code : Code} {reply : ReplyFields} {s : State} (h : Accepts tag s)
    (hd : requestReadNode tag addr (taken kindReadNode tag [addr] s) =
      answer tag code reply (taken kindReadNode tag [addr] s)) :
    exec (.readNode tag [addr]) s = .next (kickTx (answered 0x0B tag [addr] code reply [] s)) :=
  exec_answers (kind := kindReadNode) rfl rfl (List.cons_ne_nil _ _) h rfl hd

/-! ## READ-PIPE -/

/-- R38: the first check, the range of the handle. -/
theorem requestReadPipe_badField {tag handle : Byte} {s : State} (hh : 47 < handle.toNat) :
    requestReadPipe tag handle s = answer tag .badField (.readPipe none) s := if_pos hh

/-- R38: the second check, a record of the handle. -/
theorem requestReadPipe_noPipe {tag handle : Byte} {s : State} (hh : handle.toNat ≤ 47)
    (hp : findPipe handle.toNat s = none) : requestReadPipe tag handle s = answer tag .noPipe (.readPipe none) s := by
  rw [requestReadPipe, if_neg (not_maxPipes_le hh), hp]

/-- R38: READ-PIPE reports the record found, in every pipe state. -/
theorem requestReadPipe_ok {tag handle : Byte} {p : Pipe} {s : State} (hh : handle.toNat ≤ 47)
    (hp : findPipe handle.toNat s = some p) :
    requestReadPipe tag handle s = answer tag .ok (.readPipe (some (reportPipe p))) s := by
  rw [requestReadPipe, if_neg (not_maxPipes_le hh), hp]

/-- R38, R142: READ-PIPE changes nothing but what its answer does. -/
theorem exec_readPipe {tag handle : Byte} {code : Code} {reply : ReplyFields} {s : State} (h : Accepts tag s)
    (hd : requestReadPipe tag handle (taken kindReadPipe tag [handle] s) =
      answer tag code reply (taken kindReadPipe tag [handle] s)) :
    exec (.readPipe tag [handle]) s = .next (kickTx (answered 0x10 tag [handle] code reply [] s)) :=
  exec_answers (kind := kindReadPipe) rfl rfl (List.cons_ne_nil _ _) h rfl hd

/-- Settles O18: for each of the two requests, the answer of the check that fails and the report of the record found. -/
theorem readRequestsReportTheRecord : Obligations.ReadRequestsReportTheRecord := by
  refine ⟨by decide, fun tag addr handle s h => ⟨fun ha => ?nodeBadField, fun h1 h30 hn => ?noNode,
    fun n h1 h30 hn => ?node, fun hh => ?pipeBadField, fun hh hp => ?noPipe, fun p hh hp => ?pipe⟩⟩
  case nodeBadField => exact exec_readNode h (requestReadNode_badField ha)
  case noNode => exact exec_readNode h (requestReadNode_noNode h1 h30 hn)
  case node => exact exec_readNode h (requestReadNode_ok h1 h30 hn)
  case pipeBadField => exact exec_readPipe h (requestReadPipe_badField hh)
  case noPipe => exact exec_readPipe h (requestReadPipe_noPipe hh hp)
  case pipe => exact exec_readPipe h (requestReadPipe_ok hh hp)

/-! ## OPEN-PIPE -/

/-- R22: with a record at every handle none is free. -/
theorem lowestFreeHandle_eq_none {s : State} (hall : ∀ h < 48, findPipe h s ≠ none) : lowestFreeHandle s = none := by
  simpa [lowestFreeHandle, List.find?_eq_none, Option.ne_none_iff_isSome] using hall

/-- R22: the free handle below which none is free. -/
theorem lowestFreeHandle_eq_some {h : Nat} {s : State} (hlt : h < 48) (hfree : findPipe h s = none)
    (hbelow : ∀ g < h, findPipe g s ≠ none) : lowestFreeHandle s = some h := by
  rw [lowestFreeHandle, List.find?_range_eq_some]
  exact ⟨by simp [hfree], List.mem_range.2 hlt, fun g hg => by
    simpa [Option.ne_none_iff_isSome] using hbelow g hg⟩

/-- R167: codes 0 and 1 name a direction. -/
theorem directionOf_of_le_one {dir : Byte} (hd : dir.toNat ≤ 1) :
    directionOf dir = some (if dir.toNat = 0 then .inbound else .outbound) := by
  obtain h0 | h1 := Nat.le_one_iff_eq_zero_or_eq_one.1 hd
  · obtain rfl : dir = 0#8 := BitVec.eq_of_toNat_eq h0
    rfl
  · obtain rfl : dir = 1#8 := BitVec.eq_of_toNat_eq h1
    rfl

/-- R167: no other code names a direction. -/
theorem le_one_of_directionOf {dir : Byte} {d : Direction} (hd : directionOf dir = some d) : dir.toNat ≤ 1 := by
  unfold directionOf at hd
  split at hd
  · next h0 => simp [h0]
  · split at hd
    · next h1 => simp [h1]
    · cases hd

/-- R26: an entry at the address that is not DISMISSING. -/
theorem nodeOpen_iff {a : Nat} {s : State} : nodeOpen a s = true ↔ ∃ n ∈ findNode a s, n.state ≠ .dismissing := by
  unfold nodeOpen
  cases findNode a s <;> simp

/-- R23, R26: the fields of OPEN-PIPE lie within their ranges. -/
def OpenFieldsInRange (node number dir period quota : Byte) : Prop :=
  (1 ≤ node.toNat ∧ node.toNat ≤ 30) ∧ number.toNat ≤ 3 ∧ dir.toNat ≤ 1 ∧ period.toNat ≠ 0 ∧
    1 ≤ quota.toNat ∧ quota.toNat ≤ 32

/-- R26: a pipe of this node bears this number. -/
def PipeNamed (node number : Byte) (s : State) : Prop := ∃ p ∈ s.pipes, p.node = node.toNat ∧ p.number = number.toNat

/-- R26: the test OPEN-PIPE makes for a pipe of this node and number. -/
theorem pipes_any_iff {node number : Byte} {s : State} :
    (s.pipes.any fun p => p.node == node.toNat && p.number == number.toNat) = true ↔ PipeNamed node number s := by
  simp [PipeNamed]

section
variable {tag node number dir period quota : Byte} {s : State}

/-- R26: the first check. Fields that pass each of its tests lie within their ranges. -/
theorem requestOpenPipe_badField (hr : ¬OpenFieldsInRange node number dir period quota) :
    requestOpenPipe tag node number dir period quota s = answer tag .badField (.openPipe none) s := by
  unfold requestOpenPipe
  dsimp only
  by_cases hn : node.toNat < 1 ∨ 30 < node.toNat
  · exact if_pos hn
  rw [if_neg hn]
  by_cases hm : 3 < number.toNat
  · exact if_pos hm
  rw [if_neg hm]
  cases hd : directionOf dir with
  | none => rfl
  | some d =>
    by_cases hp : period.toNat = 0
    · exact if_pos hp
    by_cases hq : quota.toNat < 1 ∨ 32 < quota.toNat
    · exact (if_neg hp).trans (if_pos hq)
    have hone := le_one_of_directionOf hd
    exact absurd ⟨by omega, by omega, hone, hp, by omega⟩ hr

/-- R26: the checks OPEN-PIPE makes of the tables, its fields within their ranges. -/
theorem requestOpenPipe_inRange (hr : OpenFieldsInRange node number dir period quota) :
    requestOpenPipe tag node number dir period quota s =
      if ¬nodeOpen node.toNat s then answer tag .noNode (.openPipe none) s
      else if s.pipes.any fun p => p.node == node.toNat && p.number == number.toNat then
        answer tag .pipeExists (.openPipe none) s
      else (lowestFreeHandle s).elim (answer tag .tableFull (.openPipe none) s) fun h =>
        answer tag .ok (.openPipe (some h)) (addPipe (newPipe h node.toNat number.toNat
          (if dir.toNat = 0 then .inbound else .outbound) period.toNat quota.toNat) s) := by
  obtain ⟨⟨hn1, hn30⟩, hm, hd, hp, hq⟩ := hr
  unfold requestOpenPipe
  dsimp only
  rw [if_neg (not_address_out_of_range hn1 hn30), if_neg (Nat.not_lt.2 hm), directionOf_of_le_one hd]
  dsimp only
  rw [if_neg hp, if_neg (by omega)]
  cases lowestFreeHandle s <;> rfl

/-- R26: the second check, a node at the address that is not DISMISSING. -/
theorem requestOpenPipe_noNode (hr : OpenFieldsInRange node number dir period quota)
    (hn : ¬∃ n ∈ findNode node.toNat s, n.state ≠ .dismissing) :
    requestOpenPipe tag node number dir period quota s = answer tag .noNode (.openPipe none) s := by
  rw [requestOpenPipe_inRange hr, if_pos (mt nodeOpen_iff.1 hn)]

/-- R26: the third check, no pipe of this node and number. -/
theorem requestOpenPipe_pipeExists (hr : OpenFieldsInRange node number dir period quota)
    (hn : ∃ n ∈ findNode node.toNat s, n.state ≠ .dismissing) (hm : PipeNamed node number s) :
    requestOpenPipe tag node number dir period quota s = answer tag .pipeExists (.openPipe none) s := by
  rw [requestOpenPipe_inRange hr, if_neg (not_not.2 (nodeOpen_iff.2 hn)), if_pos (pipes_any_iff.2 hm)]

/-- R26: the fourth check, a free handle. -/
theorem requestOpenPipe_tableFull (hr : OpenFieldsInRange node number dir period quota)
    (hn : ∃ n ∈ findNode node.toNat s, n.state ≠ .dismissing) (hm : ¬PipeNamed node number s)
    (hall : ∀ h < 48, findPipe h s ≠ none) :
    requestOpenPipe tag node number dir period quota s = answer tag .tableFull (.openPipe none) s := by
  rw [requestOpenPipe_inRange hr, if_neg (not_not.2 (nodeOpen_iff.2 hn)), if_neg (mt pipes_any_iff.1 hm),
    lowestFreeHandle_eq_none hall, Option.elim_none]

/-- R26: an OPEN-PIPE that passes its checks. -/
theorem requestOpenPipe_ok {h : Nat} (hr : OpenFieldsInRange node number dir period quota)
    (hn : ∃ n ∈ findNode node.toNat s, n.state ≠ .dismissing) (hm : ¬PipeNamed node number s)
    (hlt : h < 48) (hfree : findPipe h s = none) (hbelow : ∀ g < h, findPipe g s ≠ none) :
    requestOpenPipe tag node number dir period quota s =
      answer tag .ok (.openPipe (some h)) (addPipe (newPipe h node.toNat number.toNat
        (if dir.toNat = 0 then .inbound else .outbound) period.toNat quota.toNat) s) := by
  rw [requestOpenPipe_inRange hr, if_neg (not_not.2 (nodeOpen_iff.2 hn)), if_neg (mt pipes_any_iff.1 hm),
    lowestFreeHandle_eq_some hlt hfree hbelow, Option.elim_some]

/-- R26, R142: an OPEN-PIPE that leaves the state `s'` before its answer. -/
theorem exec_openPipe {code : Code} {reply : ReplyFields} {s' : State} (h : Accepts tag s)
    (hw : s'.window = s.window)
    (hd : requestOpenPipe tag node number dir period quota (taken kindOpenPipe tag [node, number, dir, period, quota] s) =
      answer tag code reply (taken kindOpenPipe tag [node, number, dir, period, quota] s')) :
    exec (.openPipe tag [node, number, dir, period, quota]) s =
      .next (kickTx (answered 0x0D tag [node, number, dir, period, quota] code reply [] s')) :=
  exec_answers (kind := kindOpenPipe) rfl rfl (List.cons_ne_nil _ _) h hw hd

end

/-- Settles O20: the refusal of each check in order, and the record put in at the lowest free handle. -/
theorem openPipeTakesTheLowestFreeHandle : Obligations.OpenPipeTakesTheLowestFreeHandle := by
  refine ⟨by decide, fun tag node number dir period quota s h => ⟨fun hr => ?badField, fun hr hn => ?noNode,
    fun hr hn hm => ?pipeExists, fun hr hn hm hall => ?tableFull,
    fun handle hlt hr hn hm hfree hbelow => ?ok⟩⟩
  case badField => exact exec_openPipe h rfl (requestOpenPipe_badField hr)
  case noNode => exact exec_openPipe h rfl (requestOpenPipe_noNode hr hn)
  case pipeExists => exact exec_openPipe h rfl (requestOpenPipe_pipeExists hr hn hm)
  case tableFull => exact exec_openPipe h rfl (requestOpenPipe_tableFull hr hn hm hall)
  case ok => exact exec_openPipe h rfl (requestOpenPipe_ok hr hn hm hlt hfree hbelow)

/-! ## RESUME-PIPE -/

/-- R35: a HALTED pipe becomes CLEARING. -/
theorem resumedPipe_halted {p : Pipe} (hs : p.state = .halted) :
    resumedPipe p = { p with state := .clearing, tries := 0 } := by
  simp [resumedPipe, hs]

/-- R35: a FAULTED pipe with the clear-needed mark becomes CLEARING and loses the mark. -/
theorem resumedPipe_faulted_marked {p : Pipe} (hs : p.state = .faulted) (hm : p.clearNeeded = true) :
    resumedPipe p = { p with state := .clearing, clearNeeded := false, tries := 0 } := by
  simp [resumedPipe, hs, hm]

/-- R35: a FAULTED pipe without the mark becomes ACTIVE. -/
theorem resumedPipe_faulted_unmarked {p : Pipe} (hs : p.state = .faulted) (hm : p.clearNeeded = false) :
    resumedPipe p = { p with state := .active, tries := 0 } := by
  simp [resumedPipe, hs, hm]

/-- R35: a CLEARING or ACTIVE pipe keeps its state. -/
theorem resumedPipe_running {p : Pipe} (hs : p.state = .clearing ∨ p.state = .active) :
    resumedPipe p = { p with tries := 0 } := by
  obtain hs | hs := hs <;> simp [resumedPipe, hs]

/-- R35: the first check, the range of the handle. -/
theorem requestResumePipe_badField {tag handle : Byte} {s : State} (hh : 47 < handle.toNat) :
    requestResumePipe tag handle s = answer tag .badField (.resumePipe none) s := if_pos hh

/-- R35: the second check, a record of the handle. -/
theorem requestResumePipe_noPipe {tag handle : Byte} {s : State} (hh : handle.toNat ≤ 47)
    (hp : findPipe handle.toNat s = none) :
    requestResumePipe tag handle s = answer tag .noPipe (.resumePipe none) s := by
  rw [requestResumePipe, if_neg (not_maxPipes_le hh), hp]

/-- R35: the third check, a pipe that is not CLOSING. -/
theorem requestResumePipe_closing {tag handle : Byte} {p : Pipe} {s : State} (hh : handle.toNat ≤ 47)
    (hp : findPipe handle.toNat s = some p) (hc : p.state = .closing) :
    requestResumePipe tag handle s = answer tag .pipeState (.resumePipe (some .closing)) s := by
  rw [requestResumePipe, if_neg (not_maxPipes_le hh), hp]
  exact if_pos hc

/-- R35: a RESUME-PIPE that passes its checks puts `after` in the place of the record found. -/
theorem requestResumePipe_ok {tag handle : Byte} {p after : Pipe} {s : State} (hh : handle.toNat ≤ 47)
    (hp : findPipe handle.toNat s = some p) (hc : p.state ≠ .closing) (ha : resumedPipe p = after) :
    requestResumePipe tag handle s =
      answer tag .ok (.resumePipe (some after.state)) (updPipe handle.toNat (fun _ => after) s) := by
  rw [requestResumePipe, if_neg (not_maxPipes_le hh), hp]
  dsimp only
  rw [if_neg hc, handle_of_findPipe hp, ha, updPipe_congr (g := fun _ => after) hp ha]

/-- R35, R142: a RESUME-PIPE that leaves the state `s'` before its answer. -/
theorem exec_resumePipe {tag handle : Byte} {code : Code} {reply : ReplyFields} {s s' : State} (h : Accepts tag s)
    (hw : s'.window = s.window)
    (hd : requestResumePipe tag handle (taken kindResumePipe tag [handle] s) =
      answer tag code reply (taken kindResumePipe tag [handle] s')) :
    exec (.resumePipe tag [handle]) s = .next (kickTx (answered 0x0F tag [handle] code reply [] s')) :=
  exec_answers (kind := kindResumePipe) rfl rfl (List.cons_ne_nil _ _) h hw hd

/-- R35: the state an accepted RESUME-PIPE leaves. -/
theorem exec_resumePipe_ok {tag handle : Byte} {p after : Pipe} {s : State} (h : Accepts tag s)
    (hh : handle.toNat ≤ 47) (hp : findPipe handle.toNat s = some p) (hc : p.state ≠ .closing)
    (ha : resumedPipe p = after) :
    exec (.resumePipe tag [handle]) s = .next (kickTx (answered 0x0F tag [handle] .ok
      (.resumePipe (some after.state)) [] (updPipe handle.toNat (fun _ => after) s))) :=
  exec_resumePipe h rfl (requestResumePipe_ok hh hp hc ha)

/-- Settles O22: the refusals in the order of the checks, and for each other state what `resumedPipe` is. -/
theorem resumePipeByState : Obligations.ResumePipeByState := by
  refine ⟨by decide, fun tag handle s h => ⟨fun hh => ?badField, fun hh hp => ?noPipe, fun p hh hp =>
    ⟨fun hs => ?closing, fun hs => ?halted, fun hs hm => ?marked, fun hs hm => ?unmarked, fun hs => ?running⟩⟩⟩
  case badField => exact exec_resumePipe h rfl (requestResumePipe_badField hh)
  case noPipe => exact exec_resumePipe h rfl (requestResumePipe_noPipe hh hp)
  case closing => exact exec_resumePipe h rfl (requestResumePipe_closing hh hp hs)
  case halted => exact exec_resumePipe_ok h hh hp (by simp [hs]) (resumedPipe_halted hs)
  case marked => exact exec_resumePipe_ok h hh hp (by simp [hs]) (resumedPipe_faulted_marked hs hm)
  case unmarked => exact exec_resumePipe_ok h hh hp (by simp [hs]) (resumedPipe_faulted_unmarked hs hm)
  case running =>
    have hc : p.state ≠ .closing := by obtain hs | hs := hs <;> simp [hs]
    exact exec_resumePipe_ok h hh hp hc (resumedPipe_running hs)

end Sys2Proof.Machine
end

section
/-! SIFT (R107): the answer of each check in order, the search an accepted one starts, and each carried through the
request's admission. -/

namespace Sys2Proof.Machine

/-- R105: the test SIFT makes for a sift under way. -/
theorem siftActive_iff {s : State} : siftActive s = true ↔ s.sift.state ≠ .idle := decide_eq_true_iff

/-- R107: the first check, the loop state. -/
theorem requestSift_loopState {tag : Byte} {s : State} (hl : s.loop ≠ .running) :
    requestSift tag s = answer tag .loopState (.sift 0 0 0 0) s := if_pos hl

/-- R107: the second check, no sift active. -/
theorem requestSift_busy {tag : Byte} {s : State} (hl : s.loop = .running) (ha : s.sift.state ≠ .idle) :
    requestSift tag s = answer tag .busy (.sift 0 0 0 0) s := by
  rw [requestSift, if_neg (not_not.2 hl), if_pos (siftActive_iff.2 ha)]

/-- R107: a SIFT that passes its checks starts the search among all identities (R106). -/
theorem requestSift_starts {tag : Byte} {s : State} (hl : s.loop = .running) (hi : s.sift.state = .idle) :
    requestSift tag s = deferReply tag .sift { s with sift := ⟨.probing, [emptyPrefix], none, 0, 0, 0, 0⟩ } := by
  rw [requestSift, if_neg (not_not.2 hl), if_neg fun ha => siftActive_iff.1 ha hi]

/-- R139, R142: a new SIFT request reaches the Sift Unit, and the transmitter then chooses. -/
theorem exec_sift {tag : Byte} {s : State} (h : Accepts tag s) :
    exec (.sift tag []) s = .next (kickTx (requestSift tag (taken kindSift tag [] s))) :=
  exec_request (c := .sift tag []) (kind := kindSift) (fields := []) rfl rfl h (by decide)

/-- R107, R142: a SIFT that the Sift Unit refuses is answered at once, its four tallies 0, and starts nothing. -/
theorem exec_sift_refused {tag : Byte} {code : Code} {s : State} (h : Accepts tag s)
    (hr : requestSift tag (taken kindSift tag [] s) = answer tag code (.sift 0 0 0 0) (taken kindSift tag [] s)) :
    exec (.sift tag []) s = .next (kickTx (answered 0x0A tag [] code (.sift 0 0 0 0) [] s)) := by
  rw [exec_sift h, hr, answer_taken (window_tag_ne_of_accepts h)]
  rfl

/-- R105, R139: the Sift Unit's start does not look at the window, so the reply is deferred from the state it leaves. -/
theorem exec_sift_starts {tag : Byte} {s : State} (h : Accepts tag s) (hl : s.loop = .running)
    (hi : s.sift.state = .idle) :
    exec (.sift tag []) s = .next (kickTx (deferred 0x0A tag [] .sift
      { s with sift := ⟨.probing, [⟨0, 0⟩], none, 0, 0, 0, 0⟩ })) := by
  have hd := deferReply_taken (kind := kindSift) (fields := [])
    (s := { s with sift := ⟨.probing, [emptyPrefix], none, 0, 0, 0, 0⟩ }) (window_tag_ne_of_accepts h) .sift
  rw [exec_sift h, requestSift_starts (s := taken kindSift tag [] s) hl hi]
  exact congrArg (fun t => Host.Outcome.next (kickTx t)) hd

/-- Settles O17: the refusal of each check in order, and the search started when both pass. -/
theorem siftRequestStartsTheSearch : Obligations.SiftRequestStartsTheSearch := by
  refine fun tag s h => ⟨fun hl => ?loopState, fun hl ha => ?busy, fun hl hi => ?starts⟩
  case loopState => exact exec_sift_refused h (requestSift_loopState hl)
  case busy => exact exec_sift_refused h (requestSift_busy hl ha)
  case starts => exact exec_sift_starts h hl hi

end Sys2Proof.Machine
end

section
/-! What an owner can do to the tables of the part: each of its acts is one of the kinds of change listed here, and what
every kind keeps, every act of an owner keeps. Commands are then taken apart into such changes once, and each invariant
of the tables is a case analysis of the kinds. -/

set_option Elab.async false

namespace Sys2Proof.Machine

/-! ## The kinds of change -/

/-- The part less the fields that no invariant of the part reads: its queue of commands, its pins' readings, the frames
of its two lines, the loop-control slot, the parameters and the recall countdown. -/
def body (s : State) : State :=
  { s with
    pending := [], draws := 0, cold := false, rate1 := false, rate0 := false, hostRate := .r115200, rx := huntRx
    tx := none, replyQueue := [], refusal := none, loopSlot := none, restartPending := false, recallCountdown := 0
    loopTx := none, resume := false, params := defaultParams, resendTimer := false }

/-- A property that does not read those fields. -/
theorem of_body {I : State → Prop} {s t : State} (h : body t = body s) (hs : I (body s)) : I (body t) := h ▸ hs

/-- R149: the seven counters are within their bound. -/
abbrev CountersFit (c : Counters) : Prop :=
  c.framesRejected ≤ Config.max16 ∧ c.requestsDropped ≤ Config.max16 ∧ c.callsUnanswered ≤ Config.max16 ∧
    c.answersGarbled ≤ Config.max16 ∧ c.roundOverruns ≤ Config.max16 ∧ c.fetchStarvations ≤ Config.max16 ∧
    c.lineFaults ≤ Config.max16

/-- R105: the sift's tallies are within their bound. -/
abbrev TalliesFit (u : SiftUnit) : Prop :=
  u.joined ≤ Config.max8 ∧ u.readopted ≤ Config.max8 ∧ u.conflicts ≤ Config.max8 ∧ u.unassigned ≤ Config.max8

/-- R34: a pipe's counts are within their bound. -/
abbrev PipeCountsFit (p : Pipe) : Prop := p.transfers ≤ Config.max16 ∧ p.duplicates ≤ Config.max16

/-- R23: the fields of a pipe record that OPEN-PIPE sets for good. -/
def fixedFields (p : Pipe) : Nat × Nat × Nat × Nat × Nat := (p.handle, p.node, p.number, p.period, p.quota)

/-- R22, R23, R26: the ranges of those fields. -/
abbrev PipeInRange (p : Pipe) : Prop :=
  p.handle < Config.maxPipes ∧ (1 ≤ p.node ∧ p.node ≤ Config.maxNodes) ∧ p.number ≤ 3 ∧ (1 ≤ p.period ∧ p.period ≤ 255) ∧
    1 ≤ p.quota ∧ p.quota ≤ 32

/-- The record `q` is what a change of the pipe record `p` makes of it, no block moved. -/
structure SamePipe (p q : Pipe) : Prop where
  fixed : fixedFields q = fixedFields p
  blocks : q.queue.map (·.index) = p.queue.map (·.index)
  counts : PipeCountsFit p → PipeCountsFit q

/-- A change of a node record that keeps its key and its bound. -/
structure KeepsNode (f : Node → Node) : Prop where
  addr : ∀ n, (f n).addr = n.addr
  identity : ∀ n, (f n).identity = n.identity
  silence : ∀ n, n.silence ≤ Config.maxSilence → (f n).silence ≤ Config.maxSilence

/-- R111: an address and an identity that are in no record, the address not barred. -/
abbrev AddressNew (i : Ident) (a : Nat) (s : State) : Prop :=
  (1 ≤ a ∧ a ≤ Config.maxNodes) ∧ a ∉ s.barred ∧ ∀ n ∈ s.nodes, n.addr ≠ a ∧ n.identity ≠ i

/-- R1, R2: the new queue of the first pipe that bears a handle. -/
def requeue (h : Nat) (queue : List Block) (ps : List Pipe) : List Pipe :=
  updFirst (fun q => q.handle == h) (fun q => { q with queue := queue }) ps

/-- R139: the window with the request that bears a tag in this state. -/
def inState (tag : Byte) (w : WindowState) (ws : List WindowEntry) : List WindowEntry :=
  updFirst (fun e => e.tag == tag) (fun e => { e with state := w }) ws

/-- One change of the tables. `run` says where new work may begin: an entry be appended to the due list, a sift start. -/
inductive Move (run : Prop) (s : State) : State → Prop
  | rest {t : State} (h : body t = body s) : Move run s t
  | noticeStored (b : NoticeBody) (h : s.notices.length < Config.noticeSize) : Move run s
      { s with notices := s.notices ++ [⟨s.nextNumber, b, true, false⟩], nextNumber := nextNotice s.nextNumber }
  | missedSet (n : Nat) (h : n ≤ Config.max16) : Move run s { s with missed := n }
  | noticesMarked (ns : List Notice) (h : ns.map (·.number) = s.notices.map (·.number)) : Move run s { s with notices := ns }
  | noticesRemoved (k : Nat) : Move run s { s with notices := s.notices.drop k }
  | counted (c : Counters) (h : CountersFit s.counters → CountersFit c) : Move run s { s with counters := c }
  | pipesChanged (ps : List Pipe) (h : List.Forall₂ SamePipe s.pipes ps) : Move run s { s with pipes := ps }
  | pipeOpened (p : Pipe) (hr : PipeInRange p) (hh : ∀ q ∈ s.pipes, q.handle ≠ p.handle)
      (hk : ∀ q ∈ s.pipes, ¬(q.node = p.node ∧ q.number = p.number)) (hq : p.queue = []) (hc : PipeCountsFit p) :
      Move run s { s with pipes := insertBy Pipe.handle p s.pipes }
  | pipeRemoved {h : Nat} {p : Pipe} (hp : findPipe h s = some p) : Move run s
      { s with pipes := s.pipes.eraseP (fun q => q.handle == h), free := s.free ++ p.queue.map Block.release }
  | queueFreed {h : Nat} {p : Pipe} (hp : findPipe h s = some p) (kept gone : List Block)
      (hq : p.queue.Perm (kept ++ gone)) :
      Move run s { s with pipes := requeue h kept s.pipes, free := s.free ++ gone.map Block.release }
  | blockQueued {h : Nat} {p : Pipe} {b : Block} {rest : List Block} (hp : findPipe h s = some p)
      (hf : s.free = b :: rest) (data : List Byte) (confirm : Option Byte) : Move run s
      { s with pipes := requeue h (p.queue ++ [⟨b.index, data, false, confirm⟩]) s.pipes, free := rest }
  | catchQueued {h : Nat} {p : Pipe} {b : Block} (hp : findPipe h s = some p) (hc : s.catchSlot = some b) : Move run s
      { s with pipes := requeue h (p.queue ++ [b.release]) s.pipes, catchSlot := none }
  | catchFreed {b : Block} (hc : s.catchSlot = some b) : Move run s
      { s with free := s.free ++ [b.release], catchSlot := none }
  | catchWritten (payload : List Byte) : Move run s
      { s with catchSlot := s.catchSlot.map fun b => { b with payload := payload } }
  | nodeChanged (a : Nat) (f : Node → Node) (hf : KeepsNode f) : Move run s
      { s with nodes := updFirst (fun n => n.addr == a) f s.nodes }
  | nodeAdopted {hd : Held} (hh : s.sift.held = some hd) (hk : hd.kind = .new) : Move run s
      { s with
        nodes := insertBy Node.addr ⟨hd.addr, hd.identity, .enrolled, 0, 0⟩ s.nodes
        sift := { s.sift with held := none } }
  | nodeRemoved (a : Nat) : Move run s { s with nodes := s.nodes.eraseP fun n => n.addr == a }
  | nodeBarred {a : Nat} {n : Node} (hn : findNode a s = some n) : Move run s
      { s with nodes := s.nodes.eraseP fun n => n.addr == a, barred := barredWith a s.barred }
  | nodesCleared : Move run s { s with nodes := [], barred := [] }
  | heldBarred {hd : Held} (hh : s.sift.held = some hd) (hk : hd.kind = .new) : Move run s
      { s with barred := barredWith hd.addr s.barred, sift := { s.sift with held := none } }
  | dueRemoved (d : List DueEntry) (h : d.Sublist s.due) : Move run s { s with due := d }
  | dueAppended (e : DueEntry) (h : e ∉ s.due) (hr : run) : Move run s { s with due := s.due ++ [e] }
  | siftChanged (u : SiftUnit)
      (hh : ∀ hd ∈ u.held, ∃ hd' ∈ s.sift.held, hd'.identity = hd.identity ∧ hd'.addr = hd.addr ∧ hd'.kind = hd.kind)
      (hb : TalliesFit s.sift → TalliesFit u) (ha : u.state ≠ .idle → run ∨ s.sift.state ≠ .idle) :
      Move run s { s with sift := u }
  | identityHeld (i : Ident) (a : Nat) (k : HeldKind) (hk : k = .new → AddressNew i a s) (hr : run) : Move run s
      { s with sift := { s.sift with state := .assigning, held := some ⟨i, a, k, 0⟩ } }
  | replied {tag : Byte} {w : WindowEntry} (hw : s.window.find? (fun e => e.tag == tag) = some w)
      (hs : (s.window.map (·.tag)).Nodup → w.state ≠ .replyQueued) (r : Reply) : Move run s
      { s with
        window := inState tag .replyQueued s.window
        recent := keptEntries s ++ [⟨tag, w.kind, w.crc, r, [], false⟩]
        free := s.free ++ (pushedOut s).map Block.release }
  | collected {tag : Byte} {w : WindowEntry} {h : Nat} {p : Pipe}
      (hw : s.window.find? (fun e => e.tag == tag) = some w) (hs : w.state ≠ .replyQueued) (hk : w.kind = kindCollect)
      (hp : findPipe h s = some p) (n : Nat) (hn : n ≤ 3) (r : Reply) : Move run s
      { s with
        pipes := requeue h (p.queue.drop n) s.pipes
        window := inState tag .replyQueued s.window
        recent := keptEntries s ++ [⟨tag, w.kind, w.crc, r, p.queue.take n, false⟩]
        free := s.free ++ (pushedOut s).map Block.release }
  | replyDeferred (tag : Byte) (on : Waits) (hs : ∀ w ∈ s.window, w.tag = tag → w.state ≠ .replyQueued) : Move run s
      { s with window := inState tag (.deferred on) s.window }
  | admitted (w : WindowEntry) (hw : ∀ x ∈ s.window, x.tag ≠ w.tag) (hl : s.window.length < Config.windowSize)
      (hr : ∀ e ∈ s.recent, e.tag ≠ w.tag) : Move run s
      { s with window := s.window ++ [w] }
  | repeated (w : WindowEntry) {e : RecentEntry} (hw : ∀ x ∈ s.window, x.tag ≠ w.tag)
      (hl : s.window.length < Config.windowSize) (hs : w.state = .replyQueued) {tag : Byte}
      (he : s.recent.find? (fun x => x.tag == tag) = some e) : Move run s
      { s with window := s.window ++ [w], recent := s.recent.eraseP (fun x => x.tag == tag) ++ [e] }
  | forgotten (w : WindowEntry) {e : RecentEntry} (hw : ∀ x ∈ s.window, x.tag ≠ w.tag)
      (hl : s.window.length < Config.windowSize) (he : s.recent.find? (fun x => x.tag == w.tag) = some e) : Move run s
      { s with
        window := s.window ++ [w]
        recent := s.recent.eraseP (fun x => x.tag == w.tag)
        free := s.free ++ e.retained.map Block.release }
  | released {tag : Byte} {e : RecentEntry} (he : s.recent.find? (holdsRetained tag) = some e) : Move run s
      { s with
        recent := updFirst (holdsRetained tag) markReleased s.recent
        free := s.free ++ e.retained.map Block.release }
  | requestOver (tag : Byte) : Move run s { s with window := s.window.eraseP fun w => w.tag == tag }

/-- A sequence of changes of the tables. -/
def Moves (run : Prop) : State → State → Prop := Relation.ReflTransGen (Move run)

/-! ## What a change of the notices, the due list and the counts keeps -/

variable {run : Prop} {s t : State}

/-- R155: a notice that takes the next number keeps the run. -/
theorem numbersRun_append (ns : List Nat) (n : Nat) (h : numbersRun ns n = true) :
    numbersRun (ns ++ [n]) (nextNotice n) = true := by
  induction ns with
  | nil => simp [numbersRun]
  | cons m ns ih =>
    cases ns with
    | nil => simp_all [numbersRun]
    | cons k ns =>
      simp only [numbersRun, Bool.and_eq_true, List.cons_append] at h ih ⊢
      exact ⟨h.1, ih h.2⟩

/-- R162: what is left when the oldest notices go is a run. -/
theorem numbersRun_drop (k : Nat) (ns : List Nat) (n : Nat) (h : numbersRun ns n = true) :
    numbersRun (ns.drop k) n = true := by
  induction k generalizing ns with
  | zero => exact h
  | succ k ih =>
    cases ns with
    | nil => rfl
    | cons m ns =>
      refine ih ns ?_
      cases ns with
      | nil => rfl
      | cons j ns =>
        simp only [numbersRun, Bool.and_eq_true] at h
        exact h.2

/-- R155: the number after a number from 1 to 65535 is one. -/
theorem nextNotice_fits {n : Nat} (h1 : 1 ≤ n) (h2 : n ≤ Config.max16) :
    1 ≤ nextNotice n ∧ nextNotice n ≤ Config.max16 := by
  unfold nextNotice
  simp only [Config.max16] at *
  split <;> omega

/-- R154, R155: the notice list stays in order. -/
theorem Move.notices (h : Move run s t) (hs : NoticesConsistent s) : NoticesConsistent t := by
  obtain ⟨hl, hr, hn, h1, h2, hm⟩ := id hs
  cases h with
  | rest h => exact of_body (I := NoticesConsistent) h hs
  | noticeStored b hb =>
    refine ⟨?_, ?_, ?_, (nextNotice_fits h1 h2).1, (nextNotice_fits h1 h2).2, hm⟩
    · simpa using hb
    · simpa using numbersRun_append _ _ hr
    · intro n hmem
      rcases List.mem_append.1 hmem with hmem | hmem
      · exact hn n hmem
      · obtain rfl := List.mem_singleton.1 hmem
        exact ⟨h1, h2⟩
  | missedSet n hmn => exact ⟨hl, hr, hn, h1, h2, hmn⟩
  | noticesMarked ns hns =>
    refine ⟨?_, by simpa [hns] using hr, fun n hmem => ?_, h1, h2, hm⟩
    · have := congrArg List.length hns
      simp only [List.length_map] at this
      simpa [this] using hl
    · obtain ⟨m, hmem, he⟩ := List.mem_map.1 (hns ▸ List.mem_map_of_mem hmem)
      exact he ▸ hn m hmem
  | noticesRemoved k =>
    refine ⟨?_, ?_, fun n hmem => hn n (List.mem_of_mem_drop hmem), h1, h2, hm⟩
    · simp only [List.length_drop]; omega
    · simpa [List.map_drop] using numbersRun_drop k _ _ hr
  | _ => exact hs

/-- R49: no entry comes to stand on the due list twice. -/
theorem Move.due_nodup (h : Move run s t) (hs : s.due.Nodup) : t.due.Nodup := by
  cases h with
  | rest h => exact of_body (I := fun u => u.due.Nodup) h hs
  | dueRemoved d hd => exact hs.sublist hd
  | dueAppended e he _ => exact List.nodup_append.2 ⟨hs, List.nodup_singleton e, by rintro a ha b hb rfl; simp_all⟩
  | _ => exact hs

/-- R34, R90, R105, R149, R157: the counts stay within their bounds. -/
theorem Move.counts (h : Move run s t) (hs : CountsBounded s) : CountsBounded t := by
  obtain ⟨hc, hp, hn, hj, hr, hcf, hu, hm⟩ := id hs
  cases h with
  | rest h => exact of_body (I := CountsBounded) h hs
  | missedSet n h => exact ⟨hc, hp, hn, hj, hr, hcf, hu, h⟩
  | counted c h => exact ⟨h hc, hp, hn, hj, hr, hcf, hu, hm⟩
  | pipesChanged ps h =>
    refine ⟨hc, fun q hq => ?_, hn, hj, hr, hcf, hu, hm⟩
    obtain ⟨i, hi, rfl⟩ := List.getElem_of_mem hq
    exact (h.get (h.length_eq ▸ hi) hi).counts (hp _ (List.getElem_mem _))
  | pipeOpened p _ _ _ _ hfit =>
    refine ⟨hc, fun q hq => ?_, hn, hj, hr, hcf, hu, hm⟩
    rcases List.mem_cons.1 ((insertBy_perm _ _ _).mem_iff.1 hq) with rfl | hq
    · exact hfit
    · exact hp q hq
  | pipeRemoved _ => exact ⟨hc, fun q hq => hp q (List.mem_of_mem_eraseP hq), hn, hj, hr, hcf, hu, hm⟩
  | queueFreed _ kept gone _ => exact ⟨hc, forall_updFirst hp fun _ _ h => h, hn, hj, hr, hcf, hu, hm⟩
  | blockQueued _ _ data confirm => exact ⟨hc, forall_updFirst hp fun _ _ h => h, hn, hj, hr, hcf, hu, hm⟩
  | catchQueued _ _ => exact ⟨hc, forall_updFirst hp fun _ _ h => h, hn, hj, hr, hcf, hu, hm⟩
  | collected _ _ _ _ n _ r => exact ⟨hc, forall_updFirst hp fun _ _ h => h, hn, hj, hr, hcf, hu, hm⟩
  | nodeChanged a f hf => exact ⟨hc, hp, forall_updFirst hn fun n _ h => hf.silence n h, hj, hr, hcf, hu, hm⟩
  | nodeAdopted _ _ =>
    refine ⟨hc, hp, fun n hmem => ?_, hj, hr, hcf, hu, hm⟩
    rcases List.mem_cons.1 ((insertBy_perm _ _ _).mem_iff.1 hmem) with rfl | hmem
    · exact Nat.zero_le _
    · exact hn n hmem
  | nodeRemoved a => exact ⟨hc, hp, fun n hmem => hn n (List.mem_of_mem_eraseP hmem), hj, hr, hcf, hu, hm⟩
  | nodeBarred _ => exact ⟨hc, hp, fun n hmem => hn n (List.mem_of_mem_eraseP hmem), hj, hr, hcf, hu, hm⟩
  | nodesCleared => exact ⟨hc, hp, nofun, hj, hr, hcf, hu, hm⟩
  | siftChanged u _ hb _ =>
    obtain ⟨hj, hr, hcf, hu⟩ := hb ⟨hj, hr, hcf, hu⟩
    exact ⟨hc, hp, hn, hj, hr, hcf, hu, hm⟩
  | _ => exact hs

end Sys2Proof.Machine
end

section
/-! What a change of the tables keeps of the pipe table, the node table, the request tables and the places of the blocks. -/

set_option Elab.async false

namespace Sys2Proof.Machine

variable {run : Prop} {s t : State}

/-! ## Tables -/

/-- The record found, put before those that stay when it is taken out. -/
theorem perm_cons_eraseP {α : Type} {hit : α → Bool} {x : α} {xs : List α} (h : xs.find? hit = some x) :
    xs.Perm (x :: xs.eraseP hit) := by
  induction xs with
  | nil => cases h
  | cons y ys ih =>
    by_cases hy : hit y = true
    · obtain rfl : y = x := by simpa [hy] using h
      simp [hy]
    · have := ih (by simpa [hy] using h)
      simpa [hy] using (this.cons y).trans (List.Perm.swap x y _)

/-- The record updated, put before those that are not. -/
theorem updFirst_perm {α : Type} {hit : α → Bool} {f : α → α} {x : α} {xs : List α} (h : xs.find? hit = some x) :
    (updFirst hit f xs).Perm (f x :: xs.eraseP hit) := by
  induction xs with
  | nil => cases h
  | cons y ys ih =>
    by_cases hy : hit y = true
    · obtain rfl : y = x := by simpa [hy] using h
      simp [updFirst, hy]
    · have := ih (by simpa [hy] using h)
      simpa [updFirst, hy] using (this.cons y).trans (List.Perm.swap (f x) y _)

/-- Where the key tells records apart, the record taken out by its key leaves none with it. -/
theorem key_ne_of_mem_eraseP {α β : Type} [DecidableEq β] {key : α → β} {k : β} {xs : List α} (h : (xs.map key).Nodup) :
    ∀ y ∈ xs.eraseP fun x => key x == k, key y ≠ k := by
  induction xs with
  | nil => simp
  | cons x xs ih =>
    simp only [List.map_cons, List.nodup_cons, List.mem_map, not_exists, not_and] at h
    by_cases hx : key x = k
    · subst hx
      simpa using h.1
    · intro y hy
      rw [List.eraseP_cons_of_neg (by simpa using hx)] at hy
      rcases List.mem_cons.1 hy with rfl | hy
      · exact hx
      · exact ih h.2 y hy

/-- Updating one record of a key, where an update keeps the key. -/
theorem key_updFirst {α β : Type} {hit : α → Bool} {f : α → α} {key : α → β} (h : ∀ x, key (f x) = key x) {xs : List α} :
    ∀ y ∈ updFirst hit f xs, ∃ x ∈ xs, key y = key x := by
  intro y hy
  have := List.mem_map_of_mem (f := key) hy
  rw [map_updFirst _ _ _ h] at this
  obtain ⟨x, hx, he⟩ := List.mem_map.1 this
  exact ⟨x, hx, he.symm⟩

/-! ## The pipe table -/

/-- R23: the order, the keys and the ranges of the pipe table are read off the fixed fields. -/
theorem PipesConsistent.of_fixed {ps : List Pipe} (h : ps.map fixedFields = s.pipes.map fixedFields)
    (hs : PipesConsistent s) : PipesConsistent { s with pipes := ps } := by
  obtain ⟨ho, hk, hr⟩ := hs
  have hh : ps.map (·.handle) = s.pipes.map (·.handle) := by
    simpa [List.map_map, Function.comp_def, fixedFields] using congrArg (List.map Prod.fst) h
  have hn : ps.map (fun p => (p.node, p.number)) = s.pipes.map fun p => (p.node, p.number) := by
    simpa [List.map_map, Function.comp_def, fixedFields] using
      congrArg (List.map fun x : Nat × Nat × Nat × Nat × Nat => (x.2.1, x.2.2.1)) h
  refine ⟨hh ▸ ho, hn ▸ hk, fun q hq => ?_⟩
  obtain ⟨p, hp, he⟩ := List.mem_map.1 (h ▸ List.mem_map_of_mem hq)
  simp only [fixedFields, Prod.mk.injEq] at he
  obtain ⟨h1, h2, h3, h4, h5⟩ := he
  simpa only [h1, h2, h3, h4, h5] using hr p hp

/-- A record taken out leaves the pipe table in order. -/
theorem PipesConsistent.of_sublist {ps : List Pipe} (h : ps.Sublist s.pipes) (hs : PipesConsistent s) :
    PipesConsistent { s with pipes := ps } := by
  obtain ⟨ho, hk, hr⟩ := hs
  exact ⟨ho.sublist (h.map _), hk.sublist (h.map _), fun p hp => hr p (h.subset hp)⟩

/-- Records changed one by one keep their fixed fields. -/
theorem map_fixedFields {ps qs : List Pipe} (h : List.Forall₂ SamePipe ps qs) :
    qs.map fixedFields = ps.map fixedFields := by
  induction h with
  | nil => rfl
  | cons hp _ ih => simp [hp.fixed, ih]

/-- A new queue leaves every fixed field as it was. -/
theorem requeue_fixedFields (h : Nat) (queue : List Block) (ps : List Pipe) :
    (requeue h queue ps).map fixedFields = ps.map fixedFields := by
  rw [requeue]
  exact map_updFirst (fun q : Pipe => q.handle == h) (fun q : Pipe => { q with queue := queue }) fixedFields (fun _ => rfl) ps

/-- R22, R23: the pipe table stays in order, its fixed fields in their ranges. -/
theorem Move.pipes (h : Move run s t) (hs : PipesConsistent s) : PipesConsistent t := by
  cases h with
  | rest h => exact of_body (I := PipesConsistent) h hs
  | pipesChanged ps h => exact hs.of_fixed (map_fixedFields h)
  | pipeOpened p hr hh hk _ _ =>
    obtain ⟨ho, hn, hrs⟩ := hs
    refine ⟨insertBy_sorted _ _ ho hh, ?_, fun q hq => ?_⟩
    · refine (((insertBy_perm Pipe.handle p s.pipes).map _).nodup_iff).2 (List.nodup_cons.2 ⟨?_, hn⟩)
      simpa [List.mem_map] using hk
    · rcases List.mem_cons.1 ((insertBy_perm _ _ _).mem_iff.1 hq) with rfl | hq
      · exact hr
      · exact hrs q hq
  | pipeRemoved _ => exact hs.of_sublist (List.eraseP_sublist)
  | queueFreed _ kept gone _ => exact hs.of_fixed (requeue_fixedFields _ _ _)
  | blockQueued _ _ data confirm => exact hs.of_fixed (requeue_fixedFields _ _ _)
  | catchQueued _ _ => exact hs.of_fixed (requeue_fixedFields _ _ _)
  | collected _ _ _ _ n _ r => exact hs.of_fixed (requeue_fixedFields _ _ _)
  | _ => exact hs

/-! ## The node table -/

/-- R101: an address in the set with one more in it. -/
theorem mem_barredWith {a b : Nat} {barred : List Nat} : b ∈ barredWith a barred ↔ b = a ∨ b ∈ barred := by
  unfold barredWith
  split
  · next h => exact ⟨.inr, fun hb => hb.elim (fun e => e ▸ h) id⟩
  · simpa using (insertBy_perm id a barred).mem_iff (a := b)

/-- Distinct keys in rising order. -/
theorem nodup_of_sorted {xs : List Nat} (h : xs.Pairwise (· < ·)) : xs.Nodup := h.imp fun h => Nat.ne_of_lt h

/-- R87, R88, R101, R111: addresses and identities stay distinct, barred addresses unoccupied. -/
theorem Move.nodes (h : Move run s t) (hs : NodesConsistent s) : NodesConsistent t := by
  obtain ⟨ho, hr, hi, hb, hh⟩ := id hs
  have gone : ∀ a, NodesConsistent { s with nodes := s.nodes.eraseP fun n => n.addr == a } := fun a =>
    have sub : (s.nodes.eraseP fun n => n.addr == a).Sublist s.nodes := List.eraseP_sublist
    ⟨ho.sublist (sub.map _), fun n hn => hr n (sub.subset hn), hi.sublist (sub.map _),
      fun n hn => hb n (sub.subset hn), fun hd hm hk => by
        obtain ⟨ha, hab, hn⟩ := hh hd hm hk
        exact ⟨ha, hab, fun n hm => hn n (sub.subset hm)⟩⟩
  cases h with
  | rest h => exact of_body (I := NodesConsistent) h hs
  | nodeChanged a f hf =>
    have key := fun y hy => key_updFirst (hit := fun n : Node => n.addr == a) (f := f) (key := fun n => (n.addr, n.identity))
      (fun n => by rw [hf.addr, hf.identity]) (xs := s.nodes) y hy
    simp only [Prod.mk.injEq] at key
    refine ⟨?_, fun n hn => ?_, ?_, fun n hn => ?_, fun hd hm hk => ?_⟩
    · simpa only [map_updFirst _ _ _ hf.addr] using ho
    · obtain ⟨m, hm, ha, _⟩ := key n hn
      exact ha ▸ hr m hm
    · simpa only [map_updFirst _ _ _ hf.identity] using hi
    · obtain ⟨m, hm, ha, _⟩ := key n hn
      exact ha ▸ hb m hm
    · obtain ⟨ha, hab, hne⟩ := hh hd hm hk
      refine ⟨ha, hab, fun n hn => ?_⟩
      obtain ⟨m, hm, h1, h2⟩ := key n hn
      exact h1 ▸ h2 ▸ hne m hm
  | nodeAdopted hheld hk =>
    obtain ⟨ha, hab, hne⟩ := hh _ hheld hk
    refine ⟨insertBy_sorted _ _ ho fun n hn => (hne n hn).1, fun n hn => ?_, ?_, fun n hn => ?_, nofun⟩
    · rcases List.mem_cons.1 ((insertBy_perm _ _ _).mem_iff.1 hn) with rfl | hn
      · exact ha
      · exact hr n hn
    · refine (((insertBy_perm Node.addr _ s.nodes).map _).nodup_iff).2 (List.nodup_cons.2 ⟨?_, hi⟩)
      simpa [List.mem_map] using fun n hn => (hne n hn).2
    · rcases List.mem_cons.1 ((insertBy_perm _ _ _).mem_iff.1 hn) with rfl | hn
      · exact hab
      · exact hb n hn
  | nodeRemoved a => exact gone a
  | @nodeBarred a n hn =>
    obtain ⟨go, gr, gi, gb, gh⟩ := gone a
    have hne := key_ne_of_mem_eraseP (key := Node.addr) (k := a) (nodup_of_sorted ho)
    refine ⟨go, gr, gi, fun m hm hmb => ?_, fun hd hm hk => ?_⟩
    · rcases mem_barredWith.1 hmb with he | hmb
      · exact hne m hm he
      · exact gb m hm hmb
    · obtain ⟨ha, hab, hns⟩ := gh hd hm hk
      refine ⟨ha, fun hmb => ?_, hns⟩
      rcases mem_barredWith.1 hmb with he | hmb
      · have hm' : n ∈ s.nodes := List.mem_of_find?_eq_some hn
        have : n.addr = a := by simpa using List.find?_some hn
        exact ((hh hd hm hk).2.2 n hm').1 (this.trans he.symm)
      · exact hab hmb
  | nodesCleared =>
    refine ⟨List.Pairwise.nil, nofun, List.nodup_nil, nofun, fun hd hm hk => ?_⟩
    obtain ⟨ha, _, _⟩ := hh hd hm hk
    exact ⟨ha, nofun, nofun⟩
  | heldBarred hheld hk =>
    obtain ⟨_, _, hne⟩ := hh _ hheld hk
    refine ⟨ho, hr, hi, fun n hn hmb => ?_, nofun⟩
    rcases mem_barredWith.1 hmb with he | hmb
    · exact (hne n hn).1 he
    · exact hb n hn hmb
  | siftChanged u hheld _ _ =>
    refine ⟨ho, hr, hi, hb, fun hd hm hk => ?_⟩
    obtain ⟨hd', hm', hid, had, hkd⟩ := hheld hd hm
    exact hid ▸ had ▸ hh hd' hm' (hkd.trans hk)
  | identityHeld i a k hk _ =>
    refine ⟨ho, hr, hi, hb, fun hd hm hnew => ?_⟩
    obtain rfl : (⟨i, a, k, 0⟩ : Held) = hd := by simpa using hm
    exact hk hnew
  | _ => exact hs

/-! ## The request tables -/

/-- R143: the entries that stay are entries of the table, in its order. -/
theorem keptEntries_sublist (s : State) : (keptEntries s).Sublist s.recent := by
  unfold keptEntries
  split
  · exact List.tail_sublist _
  · exact List.Sublist.refl _

/-- R143: with the oldest pushed out there is room for one more. -/
theorem keptEntries_length (h : s.recent.length ≤ Config.recentSize) : (keptEntries s).length + 1 ≤ Config.recentSize := by
  unfold keptEntries
  simp only [Config.recentSize] at *
  split
  · simp only [List.length_tail]; omega
  · omega

/-- R9: no block is lost as the oldest entry is pushed out. -/
theorem pushedOut_keptEntries (s : State) :
    s.recent.flatMap (fun e => e.retained.map (·.index)) =
      (pushedOut s).map (·.index) ++ (keptEntries s).flatMap fun e => e.retained.map (·.index) := by
  unfold pushedOut keptEntries
  split
  · cases s.recent <;> simp
  · rfl

/-- R139: the state of a window entry is not part of its key. -/
theorem inState_tags (tag : Byte) (w : WindowState) (ws : List WindowEntry) :
    (inState tag w ws).map (·.tag) = ws.map (·.tag) := by
  rw [inState]
  exact map_updFirst (fun e : WindowEntry => e.tag == tag) (fun e : WindowEntry => { e with state := w }) (·.tag)
    (fun _ => rfl) ws

/-- R139: each entry of the changed window is an old one, or the one of this tag, in its new state. -/
theorem mem_inState {tag : Byte} {w : WindowState} {ws : List WindowEntry} (hn : (ws.map (·.tag)).Nodup)
    {x : WindowEntry} (hx : x ∈ inState tag w ws) : (x ∈ ws ∧ x.tag ≠ tag) ∨ (x.tag = tag ∧ x.state = w) := by
  induction ws with
  | nil => cases hx
  | cons y ys ih =>
    simp only [List.map_cons, List.nodup_cons, List.mem_map, not_exists, not_and] at hn
    simp only [inState, updFirst, beq_iff_eq] at hx
    split at hx
    · next hy =>
      rcases List.mem_cons.1 hx with rfl | hx
      · exact .inr ⟨hy, rfl⟩
      · exact .inl ⟨List.mem_cons_of_mem _ hx, fun he => hn.1 x hx (he.trans hy.symm)⟩
    · next hy =>
      rcases List.mem_cons.1 hx with rfl | hx
      · exact .inl ⟨List.mem_cons_self .., hy⟩
      · rcases ih hn.2 hx with ⟨hm, ht⟩ | h
        · exact .inl ⟨List.mem_cons_of_mem _ hm, ht⟩
        · exact .inr h

/-- R139, R142, R143: a reply recorded as the newest entry, its request REPLY-QUEUED. -/
theorem TablesConsistent.replied {tag : Byte} {w : WindowEntry} {r : Reply} {retained : List Block}
    (hw : s.window.find? (fun e => e.tag == tag) = some w) (hw' : w.state ≠ .replyQueued) (hl : retained.length ≤ 3)
    (hk : retained ≠ [] → w.kind = kindCollect) (hs : TablesConsistent s) : TablesConsistent { s with
      window := inState tag .replyQueued s.window
      recent := keptEntries s ++ [⟨tag, w.kind, w.crc, r, retained, false⟩] } := by
  obtain ⟨hwl, hwn, hrl, hrn, hd, hf⟩ := hs
  have hmem : w ∈ s.window := List.mem_of_find?_eq_some hw
  have htag : w.tag = tag := by simpa using List.find?_some hw
  have hsub := keptEntries_sublist s
  refine ⟨?_, (inState_tags tag _ s.window).symm ▸ hwn, ?_, ?_, fun x hx hxs e he => ?_, fun e he => ?_⟩
  · have := congrArg List.length (inState_tags tag .replyQueued s.window)
    simp only [List.length_map] at this
    exact this ▸ hwl
  · simpa using keptEntries_length hrl
  · rw [List.map_append]
    refine List.nodup_append.2 ⟨hrn.sublist (hsub.map _), List.nodup_singleton _, fun a ha b hb => ?_⟩
    obtain ⟨e, he, rfl⟩ := List.mem_map.1 ha
    obtain rfl : b = tag := by simpa using hb
    exact htag ▸ hd w hmem hw' e (hsub.subset he)
  · rcases mem_inState hwn hx with ⟨hm, ht⟩ | ⟨_, hst⟩
    · rcases List.mem_append.1 he with he | he
      · exact hd x hm hxs e (hsub.subset he)
      · obtain rfl := List.mem_singleton.1 he
        exact ht.symm
    · exact absurd hst hxs
  · rcases List.mem_append.1 he with he | he
    · exact hf e (hsub.subset he)
    · obtain rfl := List.mem_singleton.1 he
      exact ⟨hl, hk, nofun⟩

/-- R139: a request whose tag is new keeps the tags of the window distinct. -/
theorem tags_of_entered {ws : List WindowEntry} {w : WindowEntry} (hn : (ws.map (·.tag)).Nodup)
    (hw : ∀ x ∈ ws, x.tag ≠ w.tag) : ((ws ++ [w]).map (·.tag)).Nodup := by
  rw [List.map_append]
  refine List.nodup_append.2 ⟨hn, List.nodup_singleton _, fun a ha b hb => ?_⟩
  obtain ⟨x, hx, rfl⟩ := List.mem_map.1 ha
  obtain rfl : b = w.tag := by simpa using hb
  exact hw x hx

/-- R8, R139, R143: the request tables stay within their bounds, tags distinct. -/
theorem Move.tables (h : Move run s t) (hs : TablesConsistent s) : TablesConsistent t := by
  obtain ⟨hwl, hwn, hrl, hrn, hd, hf⟩ := id hs
  cases h with
  | rest h => exact of_body (I := TablesConsistent) h hs
  | replied hw hq r => exact hs.replied hw (hq hwn) (Nat.zero_le _) (fun h => absurd rfl h)
  | collected hw hq hk hp n hn r =>
    refine hs.replied hw hq ?_ (fun _ => hk)
    simp only [List.length_take]
    omega
  | replyDeferred tag on hq =>
    refine ⟨?_, (inState_tags tag _ s.window).symm ▸ hwn, hrl, hrn, fun x hx hxs e he => ?_, hf⟩
    · have := congrArg List.length (inState_tags tag (.deferred on) s.window)
      simp only [List.length_map] at this
      exact this ▸ hwl
    · rcases mem_inState hwn hx with ⟨hm, _⟩ | ⟨ht, _⟩
      · exact hd x hm hxs e he
      · have : x.tag ∈ s.window.map (·.tag) := inState_tags tag (.deferred on) s.window ▸ List.mem_map_of_mem hx
        obtain ⟨y, hy, hyt⟩ := List.mem_map.1 this
        exact hyt ▸ hd y hy (hq y hy (hyt.trans ht)) e he
  | admitted w hw hl hr =>
    refine ⟨?_, tags_of_entered hwn hw, hrl, hrn, fun x hx hxs => ?_, hf⟩
    · simpa using hl
    · rcases List.mem_append.1 hx with hx | hx
      · exact hd x hx hxs
      · obtain rfl := List.mem_singleton.1 hx
        exact hr
  | @repeated w e hw hl hq tag he =>
    have hp := (perm_cons_eraseP he).trans (List.perm_append_singleton e _).symm
    refine ⟨?_, tags_of_entered hwn hw, ?_, ?_, fun x hx hxs y hy => ?_, fun y hy => hf y (hp.mem_iff.2 hy)⟩
    · simpa using hl
    · exact hp.length_eq ▸ hrl
    · exact (hp.map _).nodup_iff.1 hrn
    · rcases List.mem_append.1 hx with hx | hx
      · exact hd x hx hxs y (hp.mem_iff.2 hy)
      · obtain rfl := List.mem_singleton.1 hx
        exact absurd hq hxs
  | @forgotten w e hw hl he =>
    have sub : (s.recent.eraseP fun x => x.tag == w.tag).Sublist s.recent := List.eraseP_sublist
    refine ⟨?_, tags_of_entered hwn hw, sub.length_le.trans hrl, hrn.sublist (sub.map _), fun x hx hxs y hy => ?_,
      fun e he => hf e (sub.subset he)⟩
    · simpa using hl
    · rcases List.mem_append.1 hx with hx | hx
      · exact hd x hx hxs y (sub.subset hy)
      · obtain rfl := List.mem_singleton.1 hx
        exact key_ne_of_mem_eraseP (key := (·.tag)) hrn y hy
  | @released tag _ _ =>
    have htag : ∀ e, (markReleased e).tag = e.tag := fun _ => rfl
    have key := map_updFirst (holdsRetained tag) markReleased (·.tag) htag s.recent
    refine ⟨hwl, hwn, ?_, key.symm ▸ hrn, fun w hw hws e he => ?_, ?_⟩
    · have := congrArg List.length key
      simp only [List.length_map] at this
      exact this ▸ hrl
    · obtain ⟨x, hx, ht⟩ := key_updFirst htag e he
      exact ht ▸ hd w hw hws x hx
    · exact forall_updFirst hf fun e _ _ => ⟨Nat.zero_le _, fun h => absurd rfl h, fun _ => rfl⟩
  | requestOver tag =>
    have sub : (s.window.eraseP fun w => w.tag == tag).Sublist s.window := List.eraseP_sublist
    exact ⟨sub.length_le.trans hwl, hwn.sublist (sub.map _), hrl, hrn, fun w hw => hd w (sub.subset hw), hf⟩
  | _ => exact hs

/-! ## The places of the blocks -/

/-- R1: a block that returns to the free list is still the same block. -/
@[simp] theorem map_index_release (bs : List Block) : (bs.map Block.release).map (·.index) = bs.map (·.index) := by
  rw [List.map_map]
  rfl

/-- R2: how often a block stands in the places of the part. -/
theorem count_placedBlocks (i : Nat) (s : State) : (placedBlocks s).count i =
    (s.free.map (·.index)).count i + (s.catchSlot.toList.map (·.index)).count i +
      (s.pipes.flatMap fun p => p.queue.map (·.index)).count i +
      (s.recent.flatMap fun e => e.retained.map (·.index)).count i := by
  simp only [placedBlocks, List.count_append]

/-- R4: a pipe's record and its queue taken out of the table. -/
theorem count_eraseP_pipe (i : Nat) {h : Nat} {p : Pipe} (hp : findPipe h s = some p) :
    (s.pipes.flatMap fun p => p.queue.map (·.index)).count i = (p.queue.map (·.index)).count i +
      ((s.pipes.eraseP fun q => q.handle == h).flatMap fun p => p.queue.map (·.index)).count i := by
  rw [((perm_cons_eraseP hp).flatMap_right _).count_eq, List.flatMap_cons, List.count_append]

/-- R4: a pipe's queue replaced. -/
theorem count_requeue (i : Nat) {h : Nat} {p : Pipe} (hp : findPipe h s = some p) (queue : List Block) :
    ((requeue h queue s.pipes).flatMap fun p => p.queue.map (·.index)).count i + (p.queue.map (·.index)).count i =
      (s.pipes.flatMap fun p => p.queue.map (·.index)).count i + (queue.map (·.index)).count i := by
  rw [requeue, ((updFirst_perm (f := fun q => { q with queue := queue }) hp).flatMap_right _).count_eq,
    count_eraseP_pipe i hp, List.flatMap_cons, List.count_append]
  dsimp only
  omega

/-- R8: an entry of the recent-reply table and its retained set taken out. -/
theorem count_eraseP_recent (i : Nat) {hit : RecentEntry → Bool} {e : RecentEntry} (he : s.recent.find? hit = some e) :
    (s.recent.flatMap fun e => e.retained.map (·.index)).count i = (e.retained.map (·.index)).count i +
      ((s.recent.eraseP hit).flatMap fun e => e.retained.map (·.index)).count i := by
  rw [((perm_cons_eraseP he).flatMap_right _).count_eq, List.flatMap_cons, List.count_append]

/-- R9: the oldest entry's retained set and those of the entries that stay. -/
theorem count_keptEntries (i : Nat) (s : State) : (s.recent.flatMap fun e => e.retained.map (·.index)).count i =
    ((pushedOut s).map (·.index)).count i + ((keptEntries s).flatMap fun e => e.retained.map (·.index)).count i := by
  rw [pushedOut_keptEntries, List.count_append]

/-- Records changed one by one keep their blocks. -/
theorem flatMap_samePipe {ps qs : List Pipe} (h : List.Forall₂ SamePipe ps qs) :
    (qs.flatMap fun p => p.queue.map (·.index)) = ps.flatMap fun p => p.queue.map (·.index) := by
  induction h with
  | nil => rfl
  | cons hp _ ih => simp [hp.blocks, ih]

/-- R2: a change of the tables moves blocks from place to place, and neither makes nor loses one. -/
theorem Move.placed (h : Move run s t) : (placedBlocks t).Perm (placedBlocks s) := by
  cases h with
  | rest h => exact of_body (I := fun u => (placedBlocks u).Perm (placedBlocks s)) h (List.Perm.refl _)
  | pipesChanged ps h => exact .of_eq (by simp only [placedBlocks, flatMap_samePipe h])
  | pipeOpened p _ _ _ hq _ =>
    refine List.perm_iff_count.2 fun i => ?_
    simp [count_placedBlocks, ((insertBy_perm Pipe.handle p s.pipes).flatMap_right _).count_eq, hq]
  | pipeRemoved hp =>
    refine List.perm_iff_count.2 fun i => ?_
    have := count_eraseP_pipe i hp
    simp only [count_placedBlocks, List.map_append, List.count_append, map_index_release]
    omega
  | queueFreed hp kept gone hq =>
    refine List.perm_iff_count.2 fun i => ?_
    have h1 := count_requeue i hp kept
    have h2 := (hq.map (·.index)).count_eq i
    simp only [count_placedBlocks, List.map_append, List.count_append, map_index_release] at h2 ⊢
    omega
  | @blockQueued _ p b _ hp hf data confirm =>
    refine List.perm_iff_count.2 fun i => ?_
    have h1 := count_requeue i hp (p.queue ++ [⟨b.index, data, false, confirm⟩])
    simp only [count_placedBlocks, hf, List.map_append, List.count_append, List.map_cons, List.map_nil, List.count_cons,
      List.count_nil] at h1 ⊢
    omega
  | @catchQueued _ p b hp hc =>
    refine List.perm_iff_count.2 fun i => ?_
    have h1 := count_requeue i hp (p.queue ++ [b.release])
    simp only [count_placedBlocks, hc, Block.release, Option.toList, List.map_append, List.count_append, List.map_cons,
      List.map_nil, List.count_cons, List.count_nil] at h1 ⊢
    omega
  | catchFreed hc =>
    refine List.perm_iff_count.2 fun i => ?_
    simp only [count_placedBlocks, hc, Block.release, Option.toList, List.map_append, List.count_append, List.map_cons,
      List.map_nil, List.count_cons, List.count_nil]
    omega
  | catchWritten payload => exact .of_eq (by cases h : s.catchSlot <;> simp [placedBlocks, h])
  | replied _ _ r =>
    refine List.perm_iff_count.2 fun i => ?_
    have := count_keptEntries i s
    simp only [count_placedBlocks, List.map_append, List.count_append, map_index_release, List.flatMap_append,
      List.flatMap_cons, List.flatMap_nil, List.map_nil, List.count_nil]
    omega
  | @collected _ _ _ p _ _ _ hp n _ r =>
    refine List.perm_iff_count.2 fun i => ?_
    have h1 := count_keptEntries i s
    have h2 := count_requeue i hp (p.queue.drop n)
    have h3 := congrArg (fun bs => (bs.map (·.index)).count i) (List.take_append_drop n p.queue)
    simp only [count_placedBlocks, List.map_append, List.count_append, map_index_release, List.flatMap_append,
      List.flatMap_cons, List.flatMap_nil, List.append_nil] at h3 ⊢
    omega
  | repeated w _ _ _ he =>
    refine List.perm_iff_count.2 fun i => ?_
    have := count_eraseP_recent i he
    simp only [count_placedBlocks, List.flatMap_append, List.flatMap_cons, List.flatMap_nil, List.append_nil,
      List.count_append]
    omega
  | forgotten _ _ _ he =>
    refine List.perm_iff_count.2 fun i => ?_
    have := count_eraseP_recent i he
    simp only [count_placedBlocks, List.map_append, List.count_append, map_index_release]
    omega
  | released he =>
    refine List.perm_iff_count.2 fun i => ?_
    have h1 := count_eraseP_recent i he
    have h2 := ((updFirst_perm (f := markReleased) he).flatMap_right fun e => e.retained.map (·.index)).count_eq i
    simp only [List.flatMap_cons, List.count_append, markReleased, List.map_nil, List.count_nil] at h2
    simp only [count_placedBlocks, List.map_append, List.count_append, map_index_release]
    omega
  | _ => exact List.Perm.refl _

/-! ## What no change of the tables touches -/

/-- The part of the state that is the Loop Engine's and the Line Controller's, and the pins. -/
def control (s : State) : Bool × Bool × Bool × EngineState × Option Transaction × LoopState × Option DrainTarget ×
    LinePhase × Bool :=
  (s.rstHigh, s.lineDominant, s.roundTimer, s.engine, s.txn, s.loop, s.drainTarget, s.phase, s.domTimer)

/-- A change of the tables leaves the engine, the loop state and the line as they were. -/
theorem Move.control (h : Move run s t) : control t = control s := by
  cases h with
  | rest h => exact of_body (I := fun u => Machine.control u = Machine.control s) h rfl
  | _ => rfl

/-- R7: no change of the tables claims a catch block. -/
theorem Move.catchSlot (h : Move run s t) (hs : s.catchSlot = none) : t.catchSlot = none := by
  cases h with
  | rest h => exact of_body (I := fun u => u.catchSlot = none) h hs
  | catchQueued _ _ => rfl
  | catchFreed _ => rfl
  | catchWritten payload => simp [hs]
  | _ => exact hs

/-- R49: where no new work may begin, the due list only loses entries. -/
theorem Move.due_nil (h : Move run s t) (hr : ¬run) (hs : s.due = []) : t.due = [] := by
  cases h with
  | rest h => exact of_body (I := fun u => u.due = []) h hs
  | dueRemoved d hd => exact List.sublist_nil.1 (hs ▸ hd)
  | dueAppended e _ h => exact absurd h hr
  | _ => exact hs

/-- R105: where no new work may begin, no sift starts. -/
theorem Move.sift_idle (h : Move run s t) (hr : ¬run) (hs : s.sift.state = .idle) : t.sift.state = .idle := by
  cases h with
  | rest h => exact of_body (I := fun u => u.sift.state = .idle) h hs
  | siftChanged u _ _ ha => exact by_contra fun h => (ha h).elim hr fun h => h hs
  | identityHeld i a k _ h => exact absurd h hr
  | _ => exact hs

/-! ## Sequences of changes -/

/-- No change. -/
theorem Moves.none (s : State) : Moves run s s := .refl

/-- One change. -/
theorem Moves.of (h : Move run s t) : Moves run s t := .single h

/-- One sequence behind another. -/
theorem Moves.trans {u : State} (h : Moves run s t) (h' : Moves run t u) : Moves run s u := Relation.ReflTransGen.trans h h'

/-- A change of the fields that no invariant reads. -/
theorem Moves.rest (h : body t = body s) : Moves run s t := .of (.rest h)

/-- A change of those fields, and then a sequence. -/
theorem Moves.afterRest {u : State} (h : Moves run t u) (hb : body t = body s) : Moves run s u := (Moves.rest hb).trans h

/-- What every change keeps, a sequence of changes keeps. -/
theorem Moves.keeps {I : State → Prop} (hI : ∀ {s t}, Move run s t → I s → I t) (h : Moves run s t) (hs : I s) : I t := by
  induction (show Relation.ReflTransGen (Move run) s t from h) with
  | refl => exact hs
  | tail _ hm ih => exact hI hm (ih ‹_›)

theorem Moves.control (h : Moves run s t) : Machine.control t = Machine.control s :=
  h.keeps (I := fun u => Machine.control u = Machine.control s) (fun hm hs => hm.control.trans hs) rfl

theorem Moves.placed (h : Moves run s t) : (placedBlocks t).Perm (placedBlocks s) :=
  h.keeps (I := fun u => (placedBlocks u).Perm (placedBlocks s)) (fun hm hs => hm.placed.trans hs) (List.Perm.refl _)

end Sys2Proof.Machine
end

section
/-! Each act of an owner as a sequence of changes of the tables: notices, the due list, replies, the moves of blocks, and
the acts on pipe and node records, on the sift and on the request in the loop-control slot. -/

set_option Elab.async false

namespace Sys2Proof.Machine

variable {run : Prop} {s t : State}

/-! ## Sequences of changes -/

/-- An effect on each of a list. -/
theorem forEach_moves {α : Type} {f : α → State → State} (h : ∀ x s, Moves run s (f x s)) (xs : List α) (s : State) :
    Moves run s (forEach f xs s) :=
  forEach_keeps (P := fun u => Moves run s u) (fun x u hu => hu.trans (h x u)) xs (.none s)

/-- One of two effects. -/
theorem ite_moves {c : Prop} [Decidable c] {u v : State} (hu : c → Moves run s u) (hv : ¬c → Moves run s v) :
    Moves run s (if c then u else v) := by
  split
  · next h => exact hu h
  · next h => exact hv h

/-! ## Notices and counters -/

theorem sat16_le (n : Nat) : sat16 n ≤ Config.max16 := Nat.min_le_right _ _

theorem sat8_le (n : Nat) : sat8 n ≤ Config.max8 := Nat.min_le_right _ _

theorem satSilence_le (n : Nat) : satSilence n ≤ Config.maxSilence := Nat.min_le_right _ _

theorem notify_moves (b : NoticeBody) (s : State) : Moves run s (notify b s) := by
  unfold notify
  split
  · next h => exact .of (.noticeStored b (by simpa [noticeFits] using h))
  · exact .of (.missedSet _ (sat16_le _))

theorem forEach_notify_moves (bs : List NoticeBody) (s : State) : Moves run s (forEach notify bs s) :=
  forEach_moves notify_moves bs s

theorem removeNotices_moves (k : Nat) (s : State) : Moves run s (removeNotices k s) := by
  have removed : Moves run s { s with notices := s.notices.drop k, resendTimer := true } :=
    (Moves.of (.noticesRemoved k)).trans (.rest rfl)
  refine removed.trans (ite_moves (fun _ => ?_) fun _ => .none _)
  exact (notify_moves _ _).trans (.of (.missedSet 0 (Nat.zero_le _)))

theorem resendExpired_moves (s : State) : Moves run s (resendExpired s) := by
  refine ite_moves (fun _ => ?_) fun _ => .none _
  have numbers : (s.notices.map (markResend s)).map (·.number) = s.notices.map (·.number) := by
    rw [List.map_map]
    refine List.map_congr_left fun n _ => ?_
    dsimp only [Function.comp, markResend]
    split <;> rfl
  exact (Moves.of (.noticesMarked _ numbers)).trans (.rest rfl)

theorem kickTx_moves (s : State) : Moves run s (kickTx s) := by
  obtain ⟨tx, notices, he, hn⟩ := kickTx_frame s
  have numbers := congrArg (List.map fun x : Nat × NoticeBody × Bool => x.1) hn
  simp only [List.map_map, Function.comp_def] at numbers
  exact he ▸ (Moves.of (.noticesMarked notices numbers)).trans (.rest rfl)

theorem countRejected_moves (s : State) : Moves run s (countRejected s) :=
  .of (.counted _ fun ⟨_, h2, h3, h4, h5, h6, h7⟩ => ⟨sat16_le _, h2, h3, h4, h5, h6, h7⟩)

theorem countOverrun_moves (s : State) : Moves run s (countOverrun s) :=
  .of (.counted _ fun ⟨h1, h2, h3, h4, _, h6, h7⟩ => ⟨h1, h2, h3, h4, sat16_le _, h6, h7⟩)

theorem countOutcome_moves (call : CallKind) (e : TxnEnd) (s : State) : Moves run s (countOutcome call e s) :=
  ite_moves (fun _ => .none _) fun _ =>
    ite_moves (fun _ => .of (.counted _ fun ⟨h1, h2, _, h4, h5, h6, h7⟩ => ⟨h1, h2, sat16_le _, h4, h5, h6, h7⟩)) fun _ =>
      ite_moves (fun _ => .of (.counted _ fun ⟨h1, h2, h3, _, h5, h6, h7⟩ => ⟨h1, h2, h3, sat16_le _, h5, h6, h7⟩))
        fun _ => .none _

theorem reportFault_moves (during : LoopState) (s : State) : Moves run s (reportFault during s) :=
  (Moves.of (.counted _ fun ⟨h1, h2, h3, h4, h5, h6, _⟩ => ⟨h1, h2, h3, h4, h5, h6, sat16_le _⟩)).trans (notify_moves _ _)

/-! ## The due list and pipe records -/

theorem appendDue_moves (hr : run) (e : DueEntry) (s : State) : Moves run s (appendDue e s) :=
  ite_moves (fun _ => .none _) fun h => .of (.dueAppended e h hr)

theorem removeDue_moves (e : DueEntry) (s : State) : Moves run s (removeDue e s) :=
  .of (.dueRemoved _ List.filter_sublist)

theorem removePipeEntries_moves (a : Nat) (s : State) : Moves run s (removePipeEntries a s) :=
  .of (.dueRemoved _ List.filter_sublist)

/-- A record that is not changed. -/
theorem SamePipe.refl (p : Pipe) : SamePipe p p := ⟨rfl, rfl, id⟩

/-- One record changed. -/
theorem forall₂_updFirst {hit : Pipe → Bool} {f : Pipe → Pipe} (hf : ∀ p, SamePipe p (f p)) (ps : List Pipe) :
    List.Forall₂ SamePipe ps (updFirst hit f ps) := by
  induction ps with
  | nil => exact .nil
  | cons p ps ih =>
    unfold updFirst
    split
    · exact .cons (hf p) (List.forall₂_same.2 fun q _ => .refl q)
    · exact .cons (.refl p) ih

theorem updPipe_moves {f : Pipe → Pipe} (h : Nat) (s : State)
    (hf : ∀ p, SamePipe p (f p) := by exact fun _ => ⟨rfl, rfl, id⟩) : Moves run s (updPipe h f s) :=
  .of (.pipesChanged _ (forall₂_updFirst hf _))

/-- Every record changed. -/
theorem mapPipes_moves {f : Pipe → Pipe} (s : State)
    (hf : ∀ p, SamePipe p (f p) := by exact fun _ => ⟨rfl, rfl, id⟩) : Moves run s { s with pipes := s.pipes.map f } :=
  .of (.pipesChanged _ (List.forall₂_map_right_iff.2 (List.forall₂_same.2 fun p _ => hf p)))

theorem setCountdown_moves (h n : Nat) (s : State) : Moves run s (setCountdown h n s) :=
  updPipe_moves h s

theorem dropDueEntry_moves (e : DueEntry) (s : State) : Moves run s (dropDueEntry e s) := by
  cases e with
  | pipe h => exact setCountdown_moves h 0 s
  | _ => exact .none s

theorem clearDue_moves (s : State) : Moves run s (clearDue s) :=
  (Moves.of (.dueRemoved [] (List.nil_sublist _))).trans (forEach_moves dropDueEntry_moves _ _)

/-! ## Replies -/

/-- R139: a request of this tag that stands in the window has not been answered yet. -/
abbrev Unanswered (tag : Byte) (s : State) : Prop := ∀ w ∈ s.window, w.tag = tag → w.state ≠ .replyQueued

theorem answer_moves {tag : Byte} (h : Unanswered tag s) (code : Code) (fields : ReplyFields) :
    Moves run s (answer tag code fields s) := by
  unfold answer composeReply
  split
  · next w hw =>
    dsimp only
    rw [recordReply_eq]
    have hmem := List.mem_of_find?_eq_some hw
    have htag : w.tag = tag := by simpa using List.find?_some hw
    exact (Moves.of (.replied hw (fun _ => h w hmem htag) _)).trans (.rest rfl)
  · rw [show freeBlocks [] s = s by simp [freeBlocks]]
    exact .none s

theorem answerDeferred_moves (w : Waits) (code : Code) (fields : ReplyFields) (s : State) :
    Moves run s (answerDeferred w code fields s) := by
  unfold answerDeferred
  split
  · next e he =>
    have hmem := List.mem_of_find?_eq_some he
    have hstate : e.state = .deferred w := by simpa using List.find?_some he
    unfold answer composeReply
    split
    · next x hx =>
      have hx' := List.mem_of_find?_eq_some hx
      have htag : x.tag = e.tag := by simpa using List.find?_some hx
      dsimp only
      rw [recordReply_eq]
      refine (Moves.of (.replied hx (fun hn => ?_) _)).trans (.rest rfl)
      rw [List.inj_on_of_nodup_map hn hx' hmem htag, hstate]
      nofun
    · rw [show freeBlocks [] s = s by simp [freeBlocks]]
      exact .none s
  · exact .none s

theorem deferReply_moves {tag : Byte} (h : Unanswered tag s) (w : Waits) : Moves run s (deferReply tag w s) :=
  .of (.replyDeferred tag w h)

/-! ## Moves of blocks -/

/-- R1: a new queue for the pipe found, whatever the change reads of the record. -/
theorem updPipe_queue_eq {h : Nat} {p : Pipe} {f : Pipe → Pipe} {queue : List Block} (hp : findPipe h s = some p)
    (hf : f p = { p with queue := queue }) : updPipe h f s = { s with pipes := requeue h queue s.pipes } :=
  updPipe_congr hp hf

theorem removePipe_moves (h : Nat) (s : State) : Moves run s (removePipe h s) := by
  cases hp : findPipe h s with
  | none =>
    rw [removePipe, hp]
    exact .none s
  | some p =>
    rw [removePipe_eq hp]
    exact (Moves.of (.pipeRemoved hp)).trans (forEach_notify_moves _ _)

theorem removePipes_moves (hs : List Nat) (s : State) : Moves run s (removePipes hs s) :=
  forEach_moves removePipe_moves hs s

theorem writeCatch_moves (payload : List Byte) (s : State) : Moves run s (writeCatch payload s) :=
  .of (.catchWritten payload)

theorem catchToFree_moves (s : State) : Moves run s (catchToFree s) := by
  unfold catchToFree
  split
  · next b hb => exact .of (.catchFreed hb)
  · exact .none s

theorem catchToQueue_moves (h : Nat) (s : State) : Moves run s (catchToQueue h s) := by
  unfold catchToQueue
  split
  · next b p hb hp =>
    rw [updPipe_queue_eq (s := { s with catchSlot := none }) (p := p) hp rfl]
    exact .of (.catchQueued hp hb)
  · next b hb hp => exact .of (.catchFreed hb)
  · exact .none s

theorem markOutboundHead_moves (h : Nat) (mark : Bool) (s : State) : Moves run s (markOutboundHead h mark s) :=
  updPipe_moves h s (by exact fun p => ⟨rfl, by cases hq : p.queue <;> simp [markHead], id⟩)

theorem notifyDelivered_moves (h : Nat) (discarded : Bool) (b : Block) (s : State) :
    Moves run s (notifyDelivered h discarded b s) := by
  unfold notifyDelivered
  split
  · exact notify_moves _ s
  · exact .none s

theorem freeTakenHead_moves (h : Nat) (s : State) : Moves run s (freeTakenHead h s) := by
  unfold freeTakenHead
  split
  · next p hp =>
    split
    · next b rest hq =>
      rw [updPipe_queue_eq hp rfl]
      exact (Moves.of (.queueFreed hp rest [b] (hq ▸ List.perm_append_comm (l₁ := [b])))).trans
        (notifyDelivered_moves _ _ _ _)
    · exact .none s
  · exact .none s

theorem takeForSend_moves {h : Nat} {p : Pipe} (hp : findPipe h s = some p) (confirm : Option Byte) (data : List Byte) :
    Moves run s (takeForSend h confirm data s) := by
  unfold takeForSend
  split
  · next b rest hf =>
    rw [updPipe_queue_eq (s := { s with free := rest }) hp rfl]
    exact .of (.blockQueued hp hf data confirm)
  · exact .none s

theorem discardBlocks_moves {h : Nat} {p : Pipe} {kept gone : List Block} (hp : findPipe h s = some p)
    (hq : p.queue.Perm (kept ++ gone)) :
    Moves run s (discardBlocks h gone { s with pipes := requeue h kept s.pipes }) := by
  rw [discardBlocks_eq]
  exact (Moves.of (.queueFreed hp kept gone hq)).trans (forEach_notify_moves _ _)

/-! ## Node records -/

theorem updNode_moves {f : Node → Node} (a : Nat) (s : State)
    (hf : KeepsNode f := by exact ⟨fun _ => rfl, fun _ => rfl, fun _ h => h⟩) : Moves run s (updNode a f s) :=
  .of (.nodeChanged a f hf)

theorem clearSilence_moves (a : Nat) (s : State) : Moves run s (clearSilence a s) :=
  updNode_moves a s (by exact ⟨fun _ => rfl, fun _ => rfl, fun _ _ => Nat.zero_le _⟩)

theorem raiseSilence_moves (a : Nat) (s : State) : Moves run s (raiseSilence a s) :=
  updNode_moves a s (by exact ⟨fun _ => rfl, fun _ => rfl, fun _ _ => satSilence_le _⟩)

theorem loseNode_moves (a : Nat) (s : State) : Moves run s (loseNode a s) :=
  ((updNode_moves a s).trans (removePipeEntries_moves a _)).trans
    (notify_moves _ _)

theorem nodeUnanswered_moves (a : Nat) (s : State) : Moves run s (nodeUnanswered a s) :=
  ite_moves (fun _ => (raiseSilence_moves a s).trans (loseNode_moves a _)) fun _ => raiseSilence_moves a s

theorem rearmPipes_moves (a : Nat) (s : State) : Moves run s (rearmPipes a s) :=
  mapPipes_moves s (by intro p; split <;> exact ⟨rfl, rfl, id⟩)

theorem recallNode_moves (a : Nat) (s : State) : Moves run s (recallNode a s) := by
  unfold recallNode
  split
  · refine ite_moves (fun _ => ?_) fun _ => .none s
    exact ((updNode_moves a s (by exact ⟨fun _ => rfl, fun _ => rfl, fun _ _ => Nat.zero_le _⟩)).trans
      (rearmPipes_moves a _)).trans (notify_moves _ _)
  · exact .none s

theorem removeForReadoption_moves (n : Node) (s : State) : Moves run s (removeForReadoption n s) := by
  unfold removeForReadoption
  split
  · exact removePipeEntries_moves _ s
  · exact (removePipeEntries_moves _ s).trans (removeDue_moves _ _)
  · exact .none s

theorem readoptNode_moves (n : Node) (s : State) : Moves run s (readoptNode n s) := by
  unfold readoptNode
  have node : ∀ u, Moves run u (updNode n.addr (fun m =>
      { m with state := if m.state = .dismissing then .dismissing else .enrolled, silence := 0, dismissTries := 0 }) u) :=
    fun u => updNode_moves n.addr u (by exact ⟨fun _ => rfl, fun _ => rfl, fun _ _ => Nat.zero_le _⟩)
  have pipes : ∀ u : State, Moves run u { u with pipes := u.pipes.map fun p => if p.node = n.addr then readoptPipe p else p } :=
    fun u => mapPipes_moves u (by intro p; split <;> exact ⟨rfl, rfl, id⟩)
  exact ((((removeForReadoption_moves n s).trans (node _)).trans (pipes _)).trans (notify_moves _ _)).trans
    (forEach_moves (fun h u => notify_moves _ u) _ _)

theorem removeNode_moves (a : Nat) (s : State) : Moves run s (removeNode a s) :=
  (removePipes_moves _ s).trans (.of (.nodeRemoved a))

/-- R18: removing pipes leaves the node table as it was. -/
theorem removePipes_nodes (hs : List Nat) (s : State) :
    (removePipes hs s).nodes = s.nodes ∧ (removePipes hs s).barred = s.barred := by
  refine forEach_keeps (P := fun u => u.nodes = s.nodes ∧ u.barred = s.barred) (fun h u hu => ?_) hs ⟨rfl, rfl⟩
  cases hp : findPipe h u with
  | none => simpa only [removePipe, hp] using hu
  | some p =>
    rw [removePipe_eq hp]
    exact forEach_keeps (P := fun u => u.nodes = s.nodes ∧ u.barred = s.barred) (fun b u hu => by simpa using hu) _ hu

theorem removeLostNode_moves {a : Nat} {n : Node} (hn : findNode a s = some n) : Moves run s (removeLostNode a s) := by
  have found : findNode a (removePipes (handlesOf a (removeDue (.recall a) s)) (removeDue (.recall a) s)) = some n := by
    unfold findNode
    rw [(removePipes_nodes _ _).1]
    exact hn
  unfold removeLostNode removeNode
  rw [barAddress_eq]
  exact ((removeDue_moves _ s).trans (removePipes_moves _ _)).trans (.of (.nodeBarred found))

theorem beginDismissal_moves (hr : run) (a : Nat) (s : State) : Moves run s (beginDismissal a s) :=
  ((updNode_moves a s).trans (removePipeEntries_moves a _)).trans
    (appendDue_moves hr _ _)

theorem dismissalAnswered_moves (a : Nat) (s : State) : Moves run s (dismissalAnswered a s) := by
  unfold dismissalAnswered
  split
  · exact (removeNode_moves a s).trans (answerDeferred_moves _ _ _ _)
  · exact .none s

theorem dismissTryFailed_moves (hr : run) (a : Nat) (s : State) : Moves run s (dismissTryFailed a s) := by
  unfold dismissTryFailed
  split
  · refine ite_moves (fun _ => ?_) fun _ => (loseNode_moves a s).trans (answerDeferred_moves _ _ _ _)
    refine (updNode_moves (f := fun m => { m with dismissTries := m.dismissTries + 1 }) a s).trans ?_
    exact ite_moves (fun _ => appendDue_moves hr _ _) fun _ => .none _
  · exact .none s

theorem cancelDismissal_moves (a : Nat) (s : State) : Moves run s (cancelDismissal a s) :=
  (updNode_moves a s).trans (answerDeferred_moves _ _ _ _)

theorem settleDismissals_moves (s : State) : Moves run s (settleDismissals s) :=
  forEach_moves cancelDismissal_moves _ s

theorem clearAndSettle_moves (s : State) : Moves run s (clearAndSettle s) :=
  (clearDue_moves s).trans (settleDismissals_moves _)

/-! ## Outcomes on a pipe -/

theorem completeClose_moves (h : Nat) (s : State) : Moves run s (completeClose h s) := by
  unfold completeClose
  split
  · exact (removePipe_moves h s).trans (answerDeferred_moves _ _ _ _)
  · exact .none s

theorem reportWaiting_moves (h : Nat) (s : State) : Moves run s (reportWaiting h s) := by
  unfold reportWaiting
  split
  · refine ite_moves (fun _ => .none s) fun _ => ite_moves (fun _ => ?_) fun _ => notify_moves _ s
    exact (updPipe_moves h s).trans (notify_moves _ _)
  · exact .none s

theorem pipeAccepted_moves (h : Nat) (s : State) : Moves run s (pipeAccepted h s) :=
  (updPipe_moves h s (by exact fun _ => ⟨rfl, rfl, fun hf => ⟨sat16_le _, hf.2⟩⟩)).trans (reportWaiting_moves h _)

theorem pipeFailedTry_moves (hr : run) (h : Nat) (garbled : Bool) (s : State) :
    Moves run s (pipeFailedTry h garbled s) := by
  unfold pipeFailedTry
  split
  · refine ite_moves (fun _ => ?_) fun _ => ?_
    · refine (updPipe_moves (f := fun q => { q with tries := q.tries + 1 }) h s).trans ?_
      exact ite_moves (fun _ => appendDue_moves hr _ _) fun _ => .none _
    · exact (updPipe_moves h s).trans (notify_moves _ _)
  · exact .none s

theorem settlePipe_moves (hr : run) (h : Nat) (call : CallKind) (e : TxnEnd) (lost : Bool) (s : State) :
    Moves run s (settlePipe h call e lost s) := by
  unfold settlePipe
  split
  case h_1 => exact pipeAccepted_moves h s
  case h_2 => exact updPipe_moves h s (by exact fun _ => ⟨rfl, rfl, fun hf => ⟨hf.1, sat16_le _⟩⟩)
  case h_3 => exact updPipe_moves h s (by exact fun _ => ⟨rfl, rfl, fun hf => ⟨sat16_le _, hf.2⟩⟩)
  case h_4 => exact updPipe_moves h s
  case h_5 => exact (updPipe_moves h s).trans (notify_moves _ _)
  case h_6 => exact (updPipe_moves h s).trans (notify_moves _ _)
  case h_7 =>
    exact ite_moves (fun _ => updPipe_moves h s) fun _ => pipeFailedTry_moves hr h false s
  case h_8 => exact pipeFailedTry_moves hr h true s
  all_goals exact .none s

theorem settleBlock_moves (h : Nat) (call : CallKind) (e : TxnEnd) (s : State) : Moves run s (settleBlock h call e s) := by
  unfold settleBlock
  split
  case h_1 => exact ite_moves (fun _ => catchToQueue_moves h s) fun _ => catchToFree_moves s
  case h_2 => exact ite_moves (fun _ => freeTakenHead_moves h s) fun _ => markOutboundHead_moves h false s
  all_goals exact .none s

theorem settleSilence_moves (a : Nat) (e : TxnEnd) (s : State) : Moves run s (settleSilence a e s) := by
  cases e with
  | unanswered => exact nodeUnanswered_moves a s
  | accepted => exact clearSilence_moves a s
  | duplicate => exact clearSilence_moves a s
  | taken => exact clearSilence_moves a s
  | hold => exact clearSilence_moves a s
  | refuse => exact clearSilence_moves a s
  | cleared => exact clearSilence_moves a s
  | _ => exact .none s

theorem endPipeTxn_moves (hr : run) (h : Nat) (call : CallKind) (e : TxnEnd) (s : State) :
    Moves run s (endPipeTxn h call e s) := by
  unfold endPipeTxn
  split
  · next p _ =>
    refine ((settleBlock_moves h call e s).trans (settleSilence_moves p.node e _)).trans ?_
    exact ite_moves (fun _ => completeClose_moves h _) fun _ => settlePipe_moves hr h call e _ _
  · exact catchToFree_moves s

/-! ## The sift -/

/-- R105: a change of the Sift Unit that lets go of what is held or keeps it, and bounds its tallies. -/
theorem updSift_moves {f : SiftUnit → SiftUnit} (hr : run) (hh : (f s.sift).held = none ∨ (f s.sift).held = s.sift.held)
    (hb : TalliesFit s.sift → TalliesFit (f s.sift)) : Moves run s (updSift f s) := by
  refine .of (.siftChanged _ (fun hd hm => ?_) hb fun _ => .inl hr)
  rcases hh with h | h
  · rw [h] at hm
    cases hm
  · exact ⟨hd, h ▸ hm, rfl, rfl, rfl⟩

theorem siftEnded_moves (code : Code) (s : State) : Moves run s (siftEnded code s) := by
  have removed : Moves run s { s with due := s.due.filter fun e => e ≠ .sift } := .of (.dueRemoved _ List.filter_sublist)
  refine (removed.trans
    (.of (.siftChanged { s.sift with state := .idle, stack := [], held := none } nofun (fun h => h) ?_))).trans
    (answerDeferred_moves _ _ _ _)
  exact fun h => absurd rfl h

theorem siftGoesOn_moves (hr : run) (s : State) : Moves run s (siftGoesOn s) :=
  ite_moves (fun _ => siftEnded_moves .ok s) fun _ =>
    updSift_moves (f := fun u => { u with state := .probing, held := none }) hr (.inl rfl) fun h => h

/-- R110: what the end of a call on the sift leaves does not depend on what is held. -/
theorem siftGoesOn_held (s : State) :
    siftGoesOn { s with sift := { s.sift with held := none } } = siftGoesOn s := rfl

theorem raiseUnassigned_moves (hr : run) (s : State) : Moves run s (raiseUnassigned s) :=
  updSift_moves hr (.inr rfl) fun ⟨hj, hra, hc, _⟩ => ⟨hj, hra, hc, sat8_le _⟩

theorem heldReleased_moves (hr : run) (s : State) : Moves run s (heldReleased s) :=
  (raiseUnassigned_moves hr s).trans (siftGoesOn_moves hr _)

/-- R101, R114: a held NEW address is barred as the assignment is released. -/
theorem barHeld_moves {hd : Held} (hh : s.sift.held = some hd) :
    ∃ u, Moves run s u ∧ { barHeld hd s with sift := { s.sift with held := none } } = u := by
  refine ⟨_, ?_, rfl⟩
  unfold barHeld
  split
  · next hk =>
    rw [barAddress_eq]
    exact .of (.heldBarred hh hk)
  · exact .of (.siftChanged _ nofun (fun h => h) fun h => .inr h)

/-- R114: what the release of an assignment leaves does not depend on what is held. -/
theorem heldReleased_held (s : State) :
    heldReleased { s with sift := { s.sift with held := none } } = heldReleased s := rfl

theorem barHeld_sift (hd : Held) (s : State) : (barHeld hd s).sift = s.sift := by
  unfold barHeld
  split
  · exact barAddress_sift _ s
  · rfl

theorem heldReleased_barHeld_moves {hd : Held} (hr : run) (hh : s.sift.held = some hd) :
    Moves run s (heldReleased (barHeld hd s)) := by
  obtain ⟨u, hu, he⟩ := barHeld_moves (run := run) hh
  have : heldReleased (barHeld hd s) = heldReleased u := by
    rw [← heldReleased_held, barHeld_sift, he]
  rw [this]
  exact hu.trans (heldReleased_moves hr u)

theorem assignTryFailed_moves {hd : Held} (hr : run) (hh : s.sift.held = some hd) :
    Moves run s (assignTryFailed hd s) := by
  unfold assignTryFailed
  rw [dropHeld_eq, dropHeld_eq]
  refine ite_moves (fun _ => heldReleased_moves hr s) fun _ =>
    ite_moves (fun _ => ?_) fun _ => heldReleased_barHeld_moves hr hh
  have tried : Moves run s (updSift (fun u => { u with held := some { hd with tries := hd.tries + 1 } }) s) :=
    .of (.siftChanged _ (fun hd' hm => by cases hm; exact ⟨hd, hh, rfl, rfl, rfl⟩) (fun h => h) fun h => .inr h)
  exact tried.trans (ite_moves (fun _ => appendDue_moves hr _ _) fun _ => .none _)

theorem assignAbandoned_moves {hd : Held} (hr : run) (hh : s.sift.held = some hd) :
    Moves run s (assignAbandoned hd s) := by
  obtain ⟨u, hu, he⟩ := barHeld_moves (run := run) hh
  have : assignAbandoned hd s = raiseUnassigned u := by
    unfold assignAbandoned raiseUnassigned updSift
    rw [← he, barHeld_sift]
  rw [this]
  exact hu.trans (raiseUnassigned_moves hr u)

/-- R155: a notice asked for does not look at the Sift Unit. -/
theorem notify_of_sift (b : NoticeBody) (u : SiftUnit) (s : State) :
    notify b { s with sift := u } = { notify b s with sift := u } := by
  unfold notify noticeFits
  split <;> rfl

theorem heldAdopted_moves {hd : Held} (hr : run) (hh : s.sift.held = some hd) : Moves run s (heldAdopted hd s) := by
  unfold heldAdopted
  split
  · next hk =>
    have same : continueSift (raiseJoined (notify (.nodeJoined hd.addr hd.identity) (addNode hd.addr hd.identity s))) =
        siftGoesOn (raiseJoined (notify (.nodeJoined hd.addr hd.identity)
          { addNode hd.addr hd.identity s with sift := { s.sift with held := none } })) := by
      rw [continueSift_eq, ← siftGoesOn_held]
      simp only [raiseJoined, updSift, notify_of_sift, notify_sift]
      rfl
    rw [same]
    refine .trans (.trans (.trans (.of (.nodeAdopted hh hk)) (notify_moves (.nodeJoined hd.addr hd.identity) _)) ?_)
      (siftGoesOn_moves hr _)
    exact updSift_moves hr (.inr rfl) fun ⟨_, hra, hc, hu⟩ => ⟨sat8_le _, hra, hc, hu⟩
  · next n _ _ =>
    rw [continueSift_eq]
    refine (readoptNode_moves n s).trans (.trans ?_ (siftGoesOn_moves hr _))
    exact updSift_moves hr (.inr rfl) fun ⟨hj, _, hc, hu⟩ => ⟨hj, sat8_le _, hc, hu⟩
  · rw [dropHeld_eq]
    exact heldReleased_moves hr s

/-- R117: a cancelled sift ends the same, whatever is still held as it ends. -/
theorem siftEnded_held (code : Code) (s : State) :
    siftEnded code { s with sift := { s.sift with held := none } } = siftEnded code s := rfl

theorem siftCancelled_moves (s : State) : Moves run s (siftCancelled s) := by
  unfold siftCancelled
  refine ite_moves (fun _ => .none s) fun hidle => ?_
  cases hh : s.sift.held with
  | none => exact siftEnded_moves .cancelled s
  | some hd =>
    dsimp only
    have raised : ∀ u : State, u.sift = { s.sift with held := none } → Moves run u
        { u with sift := { s.sift with held := none, unassigned := min (s.sift.unassigned + 1) 255 } } := fun u hu =>
      .of (.siftChanged _ nofun
        (fun ht => by rw [hu] at ht; obtain ⟨hj, hra, hc, _⟩ := ht; exact ⟨hj, hra, hc, Nat.min_le_right _ _⟩)
        (fun _ => .inr (by rw [hu]; exact hidle)))
    rw [← siftEnded_held]
    by_cases hb : hd.kind = .new ∧ 0 < hd.tries
    · rw [if_pos hb]
      exact ((Moves.of (.heldBarred hh hb.1)).trans (raised _ rfl)).trans (siftEnded_moves .cancelled _)
    · rw [if_neg hb]
      have dropped : Moves run s { s with sift := { s.sift with held := none } } :=
        .of (.siftChanged _ nofun (fun h => h) fun h => .inr h)
      exact (dropped.trans (raised _ rfl)).trans (siftEnded_moves .cancelled _)

theorem cancelSift_moves (s : State) : Moves run s (cancelSift s) := cancelSift_eq s ▸ siftCancelled_moves s

/-- R111: the lowest free address is new, where no record bears the identity. -/
theorem addressNew_of_lowest {i : Ident} {a : Nat} (hi : nodeOfIdentity i s = none) (ha : lowestFreeAddress s = some a) :
    AddressNew i a s := by
  have hmem := List.mem_of_find?_eq_some ha
  have hfree := List.find?_some ha
  simp only [Bool.and_eq_true, Option.isNone_iff_eq_none, Bool.not_eq_true', List.contains_eq_mem,
    decide_eq_false_iff_not] at hfree
  obtain ⟨hnone, hb⟩ := hfree
  obtain ⟨k, hk, rfl⟩ := List.mem_range'.1 hmem
  refine ⟨by simp only [Config.maxNodes] at *; omega, hb, fun n hn => ⟨fun he => ?_, fun he => ?_⟩⟩
  · exact absurd (by simpa using he) (List.find?_eq_none.1 hnone n hn)
  · exact absurd (by simpa using he) (List.find?_eq_none.1 hi n hn)

theorem identFound_moves (hr : run) (i : Ident) (s : State) : Moves run s (identFound i s) := by
  unfold identFound
  split
  · next n _ => exact .of (.identityHeld i n.addr .readopt nofun hr)
  · next hi =>
    split
    · next a ha => exact .of (.identityHeld i a .new (fun _ => addressNew_of_lowest hi ha) hr)
    · rw [endSift_eq]
      exact (raiseUnassigned_moves hr s).trans (siftEnded_moves _ _)

theorem probeGarbled_moves (hr : run) (p : Prefix) (s : State) : Moves run s (probeGarbled p s) := by
  unfold probeGarbled
  rw [continueSift_eq]
  refine ite_moves (fun _ => updSift_moves hr (.inr rfl) fun h => h) fun _ => .trans ?_ (siftGoesOn_moves hr _)
  exact updSift_moves hr (.inr rfl) fun ⟨hj, hra, _, hu⟩ => ⟨hj, hra, sat8_le _, hu⟩

/-! ## The end of a transaction -/

theorem endProbe_moves (hr : run) (p : Prefix) (e : TxnEnd) (s : State) : Moves run s (endProbe p e s) := by
  cases e with
  | ident i => exact identFound_moves hr i s
  | unanswered => exact siftGoesOn_moves hr s
  | garbled => exact probeGarbled_moves hr p s
  | _ => exact .none s

theorem endSiftCall_moves (hr : run) (t : Transaction) (e : TxnEnd) (s : State) : Moves run s (endSiftCall t e s) := by
  unfold endSiftCall
  split
  · exact endProbe_moves hr _ e s
  · next hd _ hh =>
    exact ite_moves (fun _ => heldAdopted_moves hr hh) fun _ => ite_moves (fun _ => assignTryFailed_moves hr hh) fun _ =>
      ite_moves (fun _ => assignAbandoned_moves hr hh) fun _ => .none s
  · exact .none s

theorem endDismiss_moves (hr : run) (a : Nat) (e : TxnEnd) (s : State) : Moves run s (endDismiss a e s) :=
  ite_moves (fun _ => dismissalAnswered_moves a s) fun _ =>
    ite_moves (fun _ => (raiseSilence_moves a s).trans (dismissTryFailed_moves hr a _)) fun _ =>
      ite_moves (fun _ => dismissTryFailed_moves hr a s) fun _ => .none s

theorem reportEnd_moves (hr : run) (t : Transaction) (e : TxnEnd) (s : State) : Moves run s (reportEnd t e s) := by
  refine (countOutcome_moves t.call e s).trans ?_
  unfold reportEnd
  split
  · exact endPipeTxn_moves hr _ t.call e _
  · exact ite_moves (fun _ => recallNode_moves _ _) fun _ => .none _
  · exact endDismiss_moves hr _ e _
  · exact endSiftCall_moves hr t e _

theorem storeHeard_moves (t : Transaction) (rx : LoopRx) (s : State) : Moves run s (storeHeard t rx s) :=
  ite_moves (fun _ => writeCatch_moves _ s) fun _ => .none s

theorem storeCutOff_moves (t : Transaction) (s : State) : Moves run s (storeCutOff t s) :=
  ite_moves (fun _ => (writeCatch_moves _ _).afterRest rfl) fun _ => .none s

/-! ## Rounds -/

theorem considerPipe_moves (hr : run) (h : Nat) (s : State) : Moves run s (considerPipe h s) := by
  unfold considerPipe
  split
  · exact ite_moves (fun _ => (appendDue_moves hr _ s).trans (setCountdown_moves _ _ _)) fun _ => .none s
  · exact .none s

theorem appendRecall_moves (hr : run) (a : Nat) (s : State) : Moves run s (appendRecall a s) := by
  unfold appendRecall
  split
  · exact ite_moves (fun _ => appendDue_moves hr _ s) fun _ => .none s
  · exact .none s

theorem stepRecall_moves (hr : run) (s : State) : Moves run s (stepRecall s) :=
  ite_moves (fun _ => (forEach_moves (appendRecall_moves hr) _ s).trans (.rest rfl)) fun _ => .rest rfl

theorem roundStep_moves (hr : run) (s : State) : Moves run s (roundStep s) := by
  have counted : Moves run s (if s.due = [] then s else countOverrun s) :=
    ite_moves (fun _ => .none s) fun _ => countOverrun_moves s
  have decremented := counted.trans (mapPipes_moves (f := fun p => { p with countdown := p.countdown - 1 }) _)
  have siftDue : ∀ u, Moves run u (if siftActive u then appendDue .sift u else u) := fun u =>
    ite_moves (fun _ => appendDue_moves hr _ u) fun _ => .none u
  exact .trans (.trans (.trans decremented (forEach_moves (considerPipe_moves hr) _ _)) (siftDue _)) (stepRecall_moves hr _)

/-! ## The loop-control slot and the line reset -/

theorem enterSlot_moves {tag : Byte} (h : Unanswered tag s) (r : LoopRequest) : Moves run s (enterSlot tag r s) :=
  (deferReply_moves (s := { s with loopSlot := some ⟨r, 0, 0⟩ }) h .loopControl).afterRest rfl

theorem answerSlot_moves (code : Code) (s : State) : Moves run s (answerSlot code s) := by
  unfold answerSlot
  split
  · exact (answerDeferred_moves _ _ _ _).afterRest rfl
  · exact .none s

theorem dropAllPipes_moves (s : State) : Moves run s (dropAllPipes s) :=
  (catchToFree_moves s).trans (removePipes_moves _ _)

theorem noteRemoved_moves (pipes blocks : Nat) (s : State) : Moves run s (noteRemoved pipes blocks s) := .rest rfl

theorem resetDue_moves (s : State) : Moves run s (resetDue s) :=
  have emptied : Moves run s { s with due := [] } := .of (.dueRemoved [] (List.nil_sublist _))
  emptied.trans ((settleDismissals_moves { s with due := [], recallCountdown := s.params.recallInterval }).afterRest rfl)

end Sys2Proof.Machine
end

section
/-! The requests of the host taken apart: those that change the tables alone, and that the request being executed is
still unanswered when its owner answers it. -/

set_option Elab.async false

namespace Sys2Proof.Machine

variable {run : Prop} {s t : State} {kind tag : Byte}

/-! ## The request being executed -/

/-- Each record after an update is an old one, or the updated one. -/
theorem mem_updFirst {α : Type} {hit : α → Bool} {f : α → α} {xs : List α} {x : α} (h : x ∈ updFirst hit f xs) :
    x ∈ xs ∨ ∃ y ∈ xs, hit y = true ∧ x = f y := by
  induction xs with
  | nil => cases h
  | cons y ys ih =>
    unfold updFirst at h
    split at h
    · next hy =>
      rcases List.mem_cons.1 h with rfl | h
      · exact .inr ⟨y, List.mem_cons_self .., hy, rfl⟩
      · exact .inl (List.mem_cons_of_mem _ h)
    · rcases List.mem_cons.1 h with rfl | h
      · exact .inl (List.mem_cons_self ..)
      · rcases ih h with h | ⟨z, hz, hh, he⟩
        · exact .inl (List.mem_cons_of_mem _ h)
        · exact .inr ⟨z, List.mem_cons_of_mem _ hz, hh, he⟩

/-- R139: a request of this kind and tag stands in the window in EXECUTING, and no other of its tag. -/
abbrev Executing (kind tag : Byte) (s : State) : Prop :=
  ∀ w ∈ s.window, w.tag = tag → w.state = .executing ∧ w.kind = kind

/-- R139: such a request is not answered yet. -/
theorem Executing.unanswered (h : Executing kind tag s) : Unanswered tag s := fun w hw ht => by
  rw [(h w hw ht).1]
  nofun

/-- What does not touch the window leaves the request executing. -/
theorem Executing.of_window (h : Executing kind tag s) (hw : t.window = s.window) : Executing kind tag t :=
  fun w hm => h w (hw ▸ hm)

/-- R139: a deferred reply is another request's. -/
theorem Executing.answerDeferred (h : Executing kind tag s) (w : Waits) (code : Code) (fields : ReplyFields) :
    Executing kind tag (answerDeferred w code fields s) := by
  unfold Machine.answerDeferred
  split
  · next e he =>
    have hstate : e.state = .deferred w := by simpa using List.find?_some he
    have hne : e.tag ≠ tag := fun ht => by
      have := (h e (List.mem_of_find?_eq_some he) ht).1
      rw [hstate] at this
      cases this
    unfold answer composeReply
    split
    · dsimp only
      rw [recordReply_eq]
      intro x hx ht
      rcases mem_updFirst hx with hx | ⟨y, _, hy, rfl⟩
      · exact h x hx ht
      · exact absurd ((beq_iff_eq.1 hy).symm.trans ht) hne
    · exact h
  · exact h

/-- R117: the end of a sift answers another request. -/
theorem Executing.cancelSift (h : Executing kind tag s) : Executing kind tag (cancelSift s) := by
  unfold Machine.cancelSift
  split
  · unfold endSift
    refine Executing.answerDeferred (h.of_window ?_) _ _ _
    unfold cancelHeld
    split
    · unfold barHeld
      split
      · split <;> simp [raiseUnassigned]
      · simp [raiseUnassigned]
    · simp
  · exact h

/-- R100: the settling of DISMISSING nodes answers other requests. -/
theorem Executing.clearAndSettle (h : Executing kind tag s) : Executing kind tag (clearAndSettle s) := by
  have cleared : (clearDue s).window = s.window :=
    forEach_keeps (P := fun u => u.window = s.window) (fun e u hu => by cases e <;> exact hu) s.due rfl
  exact forEach_keeps (fun a u hu => Executing.answerDeferred (hu.of_window (by simp)) _ _ _) _ (h.of_window cleared)

/-- R18: removing pipes leaves the window as it was. -/
theorem removePipes_window (hs : List Nat) (s : State) : (removePipes hs s).window = s.window := by
  refine forEach_keeps (P := fun u => u.window = s.window) (fun h u hu => ?_) hs rfl
  unfold removePipe
  split
  · exact (discardBlocks_window _ _ _).trans hu
  · exact hu

/-- R45: a round start leaves the window as it was. -/
theorem roundStep_window (s : State) : (roundStep s).window = s.window := by
  have consider : ∀ hs u, (forEach considerPipe hs u).window = u.window := fun hs u =>
    forEach_keeps (P := fun v => v.window = u.window) (fun h v hv => by
      unfold considerPipe setCountdown
      split
      · split
        · simpa using hv
        · exact hv
      · exact hv) hs rfl
  have recalls : ∀ as u, (forEach appendRecall as u).window = u.window := fun as u =>
    forEach_keeps (P := fun v => v.window = u.window) (fun a v hv => by
      unfold appendRecall
      split
      · split
        · simpa using hv
        · exact hv
      · exact hv) as rfl
  unfold roundStep stepRecall recallExpiry
  dsimp only
  split <;> split <;> simp [recalls, consider, decrementCountdowns] <;> split <;> rfl

/-! ## Requests that change the tables alone -/

theorem requestReadStatus_moves (h : Executing kind tag s) (flags : Byte) :
    Moves run s (requestReadStatus tag flags s) := by
  refine .trans (ite_moves (fun _ => .of (.counted zeroCounters fun _ => ?_)) fun _ => .none s)
    (answer_moves (h.of_window ?_).unanswered _ _)
  · exact ⟨Nat.zero_le _, Nat.zero_le _, Nat.zero_le _, Nat.zero_le _, Nat.zero_le _, Nat.zero_le _, Nat.zero_le _⟩
  · split <;> rfl

theorem requestSetLoop_moves (h : Executing kind tag s) (period wlo whi tries loss interval auto : Byte) :
    Moves run s (requestSetLoop tag period wlo whi tries loss interval auto s) := by
  refine ite_moves (fun _ => answer_moves h.unanswered _ _) fun _ => ?_
  split
  · next p _ =>
    exact (answer_moves (s := { s with params := p, recallCountdown := p.recallInterval })
      (h.of_window rfl).unanswered _ _).afterRest rfl
  · exact answer_moves h.unanswered _ _

theorem requestSift_moves (h : Executing kind tag s) (hr : s.loop = .running → run) : Moves run s (requestSift tag s) := by
  refine ite_moves (fun _ => answer_moves h.unanswered _ _) fun hl =>
    ite_moves (fun _ => answer_moves h.unanswered _ _) fun _ => ?_
  refine .trans (.of (.siftChanged ⟨.probing, [emptyPrefix], none, 0, 0, 0, 0⟩ (fun _ hh => by cases hh) (fun _ => ?_)
      fun _ => .inl (hr (not_not.1 hl))))
    (deferReply_moves (s := { s with sift := ⟨.probing, [emptyPrefix], none, 0, 0, 0, 0⟩ }) (h.of_window rfl).unanswered _)
  exact ⟨Nat.zero_le _, Nat.zero_le _, Nat.zero_le _, Nat.zero_le _⟩

theorem requestReadNode_moves (h : Executing kind tag s) (addr : Byte) : Moves run s (requestReadNode tag addr s) := by
  refine ite_moves (fun _ => answer_moves h.unanswered _ _) fun _ => ?_
  split
  · exact answer_moves h.unanswered _ _
  · exact answer_moves h.unanswered _ _

theorem requestReadPipe_moves (h : Executing kind tag s) (handle : Byte) :
    Moves run s (requestReadPipe tag handle s) := by
  refine ite_moves (fun _ => answer_moves h.unanswered _ _) fun _ => ?_
  split
  · exact answer_moves h.unanswered _ _
  · exact answer_moves h.unanswered _ _

/-- R97: the removal of a LOST node leaves the window as it was. -/
theorem removeLostNode_window (a : Nat) (s : State) : (removeLostNode a s).window = s.window := by
  simp [removeLostNode, removeNode, removePipes_window]

theorem requestDismissNode_moves (h : Executing kind tag s) (hr : s.loop = .running → run) (addr : Byte) :
    Moves run s (requestDismissNode tag addr s) := by
  refine ite_moves (fun _ => answer_moves h.unanswered _ _) fun _ => ?_
  split
  · exact answer_moves h.unanswered _ _
  · next n hn =>
    split
    · exact answer_moves h.unanswered _ _
    · rw [addr_of_findNode hn]
      exact (removeLostNode_moves hn).trans (answer_moves (h.of_window (removeLostNode_window _ _)).unanswered _ _)
    · refine ite_moves (fun hl => ?_) fun _ => answer_moves h.unanswered _ _
      exact (beginDismissal_moves (hr hl) _ s).trans
        (deferReply_moves (h.of_window (by simp [beginDismissal])).unanswered _)

/-- R22, R26: the record OPEN-PIPE creates has a free handle, and its fields lie in their ranges. -/
theorem requestOpenPipe_moves (h : Executing kind tag s) (node number dir period quota : Byte) :
    Moves run s (requestOpenPipe tag node number dir period quota s) := by
  have refused : ∀ c, Moves run s (answer tag c (.openPipe none) s) := fun c => answer_moves h.unanswered _ _
  refine ite_moves (fun _ => refused _) fun hnode => ite_moves (fun _ => refused _) fun hnum => ?_
  split
  · exact refused _
  refine ite_moves (fun _ => refused _) fun hper => ite_moves (fun _ => refused _) fun hq =>
    ite_moves (fun _ => refused _) fun _ => ite_moves (fun _ => refused _) fun hkey => ?_
  split
  · exact refused _
  next hd hlow =>
    have hfree := List.find?_some hlow
    have hlt := List.mem_range.1 (List.mem_of_find?_eq_some hlow)
    have hperiod := period.isLt
    refine .trans (.of (.pipeOpened _ ?_ ?_ ?_ rfl ⟨Nat.zero_le _, Nat.zero_le _⟩))
      (answer_moves (s := addPipe _ s) (h.of_window rfl).unanswered _ _)
    · simp only [newPipe, PipeInRange, Config.maxNodes] at *
      omega
    · have := List.find?_eq_none.1 (Option.isNone_iff_eq_none.1 hfree)
      simpa [newPipe] using this
    · simpa [newPipe] using hkey

theorem removePipe_window (h : Nat) (s : State) : (removePipe h s).window = s.window := removePipes_window [h] s

theorem requestClosePipe_moves (h : Executing kind tag s) (handle : Byte) :
    Moves run s (requestClosePipe tag handle s) := by
  refine ite_moves (fun _ => answer_moves h.unanswered _ _) fun _ => ?_
  split
  · exact answer_moves h.unanswered _ _
  · next p _ =>
    refine ite_moves (fun _ => answer_moves h.unanswered _ _) fun _ => ite_moves (fun _ => ?_) fun _ => ?_
    · exact ((updPipe_moves p.handle s).trans (removeDue_moves _ _)).trans
        (deferReply_moves (h.of_window (by simp)).unanswered _)
    · exact ((removeDue_moves _ s).trans (removePipe_moves _ _)).trans
        (answer_moves (h.of_window (by simp [removePipe_window])).unanswered _ _)

/-- R35: RESUME-PIPE changes the state, the tries and the clear-needed mark alone. -/
theorem samePipe_resumedPipe (p : Pipe) : SamePipe p (resumedPipe p) := by
  unfold resumedPipe
  split
  case h_2 => split <;> exact ⟨rfl, rfl, id⟩
  all_goals exact ⟨rfl, rfl, id⟩

theorem requestResumePipe_moves (h : Executing kind tag s) (handle : Byte) :
    Moves run s (requestResumePipe tag handle s) := by
  refine ite_moves (fun _ => answer_moves h.unanswered _ _) fun _ => ?_
  split
  · exact answer_moves h.unanswered _ _
  · refine ite_moves (fun _ => answer_moves h.unanswered _ _) fun _ => ?_
    exact (updPipe_moves _ s samePipe_resumedPipe).trans (answer_moves (h.of_window (by simp)).unanswered _ _)

theorem requestSend_moves (h : Executing kind tag s) (handle flags : Byte) (data : List Byte) :
    Moves run s (requestSend tag handle flags data s) := by
  refine ite_moves (fun _ => answer_moves h.unanswered _ _) fun _ => ?_
  split
  · exact answer_moves h.unanswered _ _
  · next p hp =>
    refine ite_moves (fun _ => answer_moves h.unanswered _ _) fun _ => ite_moves (fun _ => answer_moves h.unanswered _ _)
      fun _ => ite_moves (fun _ => answer_moves h.unanswered _ _) fun _ =>
        ite_moves (fun _ => answer_moves h.unanswered _ _) fun _ => ?_
    refine .trans (takeForSend_moves (handle_of_findPipe hp ▸ hp) _ data) (answer_moves (h.of_window ?_).unanswered _ _)
    unfold takeForSend
    split <;> simp

/-- R14: the queue of the pipe found is what FLUSH keeps and what it takes. -/
theorem queue_eq_flush (p : Pipe) : p.queue = flushKeeps p ++ flushTakes p := by
  unfold flushTakes flushKeeps
  split
  · next b rest _ hq => split <;> simp [hq]
  · next hq => simp
  · simp

theorem requestFlush_moves (h : Executing kind tag s) (handle : Byte) : Moves run s (requestFlush tag handle s) := by
  refine ite_moves (fun _ => answer_moves h.unanswered _ _) fun _ => ?_
  split
  · exact answer_moves h.unanswered _ _
  · next p hp =>
    refine ite_moves (fun _ => answer_moves h.unanswered _ _) fun _ => ?_
    have hp' := handle_of_findPipe hp ▸ hp
    refine .trans ?_ (answer_moves (h.of_window (by simp)).unanswered _ _)
    have marked : updPipe p.handle (fun q =>
          { q with queue := flushKeeps p, waitingReported := if q.dir = .inbound then false else q.waitingReported }) s =
        { updPipe p.handle (fun q =>
            { q with waitingReported := if q.dir = .inbound then false else q.waitingReported }) s with
          pipes := requeue p.handle (flushKeeps p) (updPipe p.handle (fun q =>
            { q with waitingReported := if q.dir = .inbound then false else q.waitingReported }) s).pipes } := by
      simp only [updPipe, requeue]
      rw [updFirst_updFirst (hit := fun q => q.handle == p.handle) (f := fun q : Pipe =>
        { q with waitingReported := if q.dir = .inbound then false else q.waitingReported }) fun q hq => hq]
    rw [marked]
    refine .trans (updPipe_moves p.handle s) (discardBlocks_moves (findPipe_updPipe (fun _ => rfl) hp') ?_)
    exact .of_eq (queue_eq_flush p)

theorem releaseStep_moves (flags releaseTag : Byte) (s : State) : Moves run s (releaseStep flags releaseTag s).2 := by
  unfold releaseStep
  split
  · split
    · next e he =>
      unfold releasable at he
      split at he
      · cases he
      · exact .of (.released he)
    · exact .none s
  · exact .none s

theorem releaseStep_window (flags releaseTag : Byte) (s : State) : (releaseStep flags releaseTag s).2.window = s.window := by
  unfold releaseStep
  split
  · split <;> rfl
  · rfl

/-- R8, R13: the blocks a COLLECT takes stand in its reply's retained set, or are freed where no request waits for it. -/
theorem takeForCollect_moves {h n : Nat} {p : Pipe} (hx : Executing kindCollect tag s) (hp : findPipe h s = some p)
    (hn : n ≤ 3) (code : Code) (fields : ReplyFields) :
    Moves run s (composeReply tag code fields (p.queue.take n) (takeForCollect h n s)) := by
  let mark := fun q : Pipe => { q with
    waitingReported := if (q.queue.drop n).isEmpty then false else q.waitingReported }
  have marked : takeForCollect h n s = { updPipe h mark s with
      pipes := requeue h (p.queue.drop n) (updPipe h mark s).pipes } := by
    have hp' : findPipe h (updPipe h mark s) = some (mark p) := findPipe_updPipe (fun _ => rfl) hp
    simp only [takeForCollect, requeue, updPipe]
    rw [updFirst_updFirst (hit := fun q => q.handle == h) (f := mark) fun q hq => hq]
    congr 1
    exact updFirst_congr hp rfl
  have hp' : findPipe h (updPipe h mark s) = some (mark p) := findPipe_updPipe (fun _ => rfl) hp
  refine .trans (updPipe_moves (f := mark) h s) ?_
  rw [marked]
  unfold composeReply
  split
  · next w hw =>
    have hw' : s.window.find? (fun e => e.tag == tag) = some w := hw
    obtain ⟨hstate, hkind⟩ := hx w (List.mem_of_find?_eq_some hw') (by simpa using List.find?_some hw')
    dsimp only
    rw [recordReply_eq]
    exact .trans (.of (.collected (s := updPipe h mark s) hw (by rw [hstate]; nofun) hkind hp' n hn _)) (.rest rfl)
  · refine .of (.queueFreed hp' (p.queue.drop n) (p.queue.take n) ?_)
    exact .trans (.of_eq (List.take_append_drop n p.queue).symm) List.perm_append_comm

theorem collectStep_moves (h : Executing kindCollect tag s) (handle max : Byte) (rel : ReleaseOutcome) :
    Moves run s (collectStep tag handle max rel s) := by
  refine ite_moves (fun _ => answer_moves h.unanswered _ _) fun hmax => ite_moves (fun _ => answer_moves h.unanswered _ _)
    fun _ => ?_
  split
  · exact answer_moves h.unanswered _ _
  · next p hp =>
    refine ite_moves (fun _ => answer_moves h.unanswered _ _) fun _ =>
      ite_moves (fun _ => answer_moves h.unanswered _ _) fun _ => ?_
    have hp' := handle_of_findPipe hp ▸ hp
    have := takeForCollect_moves (run := run) (n := (p.queue.take max.toNat).length) h hp'
      (by simp only [List.length_take]; omega) .ok
      (.collect handle rel (p.queue.take max.toNat).length (p.queue.length - (p.queue.take max.toNat).length))
    have htake : p.queue.take (p.queue.take max.toNat).length = p.queue.take max.toNat :=
      List.prefix_iff_eq_take.1 (List.take_prefix _ _) |>.symm
    rwa [htake] at this

theorem requestCollect_moves (h : Executing kindCollect tag s) (handle max flags releaseTag : Byte) :
    Moves run s (requestCollect tag handle max flags releaseTag s) :=
  (releaseStep_moves flags releaseTag s).trans
    (collectStep_moves (h.of_window (releaseStep_window flags releaseTag s)) handle max _)

theorem requestAckNotices_moves (h : Executing kind tag s) (lo hi : Byte) :
    Moves run s (requestAckNotices tag lo hi s) := by
  unfold requestAckNotices
  split
  · refine (removeNotices_moves _ s).trans (answer_moves (h.of_window ?_).unanswered _ _)
    unfold removeNotices reportMissed
    dsimp only
    split <;> simp
  · exact answer_moves h.unanswered _ _

/-- R123: the requests that may change the loop state. -/
inductive LoopStateAct (tag : Byte) (s : State) : State → Prop
  | start : LoopStateAct tag s (requestStartLoop tag s)
  | stop : LoopStateAct tag s (requestStopLoop tag s)
  | rest : LoopStateAct tag s (requestRestLoop tag s)
  | wake : LoopStateAct tag s (requestWakeLoop tag s)
  | reset : LoopStateAct tag s (requestLineReset tag s)

/-- R142: a request is answered or deferred by changes of the tables alone, or is one of the loop-state requests. -/
theorem dispatch_cases (h : Executing kind tag s) (hr : s.loop = .running → run) (fields : List Byte) :
    Moves run s (dispatch kind tag fields s) ∨ LoopStateAct tag s (dispatch kind tag fields s) := by
  have answered : ∀ code reply, Moves run s (answer tag code reply s) := fun _ _ => answer_moves h.unanswered _ _
  unfold dispatch
  dsimp only
  split
  case h_5 => split; exacts [.inr .start, .inl (answered _ _)]
  case h_6 => split; exacts [.inr .stop, .inl (answered _ _)]
  case h_7 => split; exacts [.inr .rest, .inl (answered _ _)]
  case h_8 => split; exacts [.inr .wake, .inl (answered _ _)]
  case h_9 => split; exacts [.inr .reset, .inl (answered _ _)]
  all_goals refine .inl ?_
  case h_1 => split <;> exact answered _ _
  case h_2 => split; exacts [requestReadStatus_moves h _, answered _ _]
  case h_3 => exact answered _ _
  case h_4 => split; exacts [requestSetLoop_moves h _ _ _ _ _ _ _, answered _ _]
  case h_10 => split; exacts [requestSift_moves h hr, answered _ _]
  case h_11 => split; exacts [requestReadNode_moves h _, answered _ _]
  case h_12 => split; exacts [requestDismissNode_moves h hr _, answered _ _]
  case h_13 => split; exacts [requestOpenPipe_moves h _ _ _ _ _, answered _ _]
  case h_14 => split; exacts [requestClosePipe_moves h _, answered _ _]
  case h_15 => split; exacts [requestResumePipe_moves h _, answered _ _]
  case h_16 => split; exacts [requestReadPipe_moves h _, answered _ _]
  case h_17 =>
    split
    · exact ite_moves (fun _ => answered _ _) fun _ => requestSend_moves h _ _ _
    · exact answered _ _
  case h_18 hk =>
    obtain rfl : kind = kindCollect := BitVec.eq_of_toNat_eq hk
    split
    exacts [requestCollect_moves h _ _ _ _, answered _ _]
  case h_19 => split; exacts [requestFlush_moves h _, answered _ _]
  case h_20 => split; exacts [requestAckNotices_moves h _ _, answered _ _]
  case h_21 => exact answered _ _

/-! ## Admission -/

/-- R140: admission changes the tables alone, or a request has been taken up and is one of the loop-state requests. -/
theorem admitRequest_cases (hr : s.loop = .running → run) (kind tag : Byte) (crc : Check) (fields : List Byte) :
    Moves run s (admitRequest kind tag crc fields s) ∨
      ∃ u, Moves run s u ∧ Executing kind tag u ∧ LoopStateAct tag u (admitRequest kind tag crc fields s) := by
  unfold admitRequest
  split
  · exact .inl (.none s)
  split
  · exact .inl (.rest rfl)
  have refused : ∀ code, Moves run s (refuseRequest kind tag code s) := fun code => by
    unfold refuseRequest
    split
    · exact .rest rfl
    · exact .of (.counted _ fun ⟨h1, _, h3, h4, h5, h6, h7⟩ => ⟨h1, sat16_le _, h3, h4, h5, h6, h7⟩)
  split
  · exact .inl (refused _)
  next hw =>
  split
  · exact .inl (refused _)
  next hl =>
  have hw' : ∀ w ∈ s.window, w.tag ≠ tag := by simpa using hw
  have taken : ∀ v, Moves run s (enterWindow ⟨tag, kind, crc, ownerOf kind, .executing⟩ v) → v.window = s.window →
      v.loop = s.loop → Moves run s (executeRequest kind tag crc fields v) ∨
        ∃ u, Moves run s u ∧ Executing kind tag u ∧ LoopStateAct tag u (executeRequest kind tag crc fields v) := by
    intro v entered hvw hvl
    have executing : Executing kind tag (enterWindow ⟨tag, kind, crc, ownerOf kind, .executing⟩ v) := by
      intro w hm ht
      rcases List.mem_append.1 hm with hm | hm
      · exact absurd ht (hw' w (hvw ▸ hm))
      · obtain rfl := List.mem_singleton.1 hm
        exact ⟨rfl, rfl⟩
    rcases dispatch_cases executing (run := run) (fun hl => hr (hvl ▸ hl)) fields with h | h
    · exact .inl (entered.trans h)
    · exact .inr ⟨_, entered, executing, h⟩
  split
  · next e he =>
    obtain rfl : e.tag = tag := by simpa using List.find?_some he
    split
    · exact .inl (.trans (.of (.repeated ⟨e.tag, kind, e.crc, ownerOf kind, .replyQueued⟩ hw' (by omega) rfl he))
        (.rest rfl))
    · exact taken (forgetEntry e s) (.of (.forgotten ⟨e.tag, kind, crc, ownerOf kind, .executing⟩ hw' (by omega) he))
        rfl rfl
  · next he => exact taken s (.of (.admitted _ hw' (by omega) (by simpa using he))) rfl rfl

end Sys2Proof.Machine
end

section
/-! Commands taken apart into the events of the part, and those events into changes of the tables and changes of the
Loop Engine and the line. The invariants of the tables and of the pool follow (R2, R8, R22, R49, R87, R149, R154). -/

set_option Elab.async false

namespace Sys2Proof.Machine

variable {s t : State}

/-! ## Events -/

/-- What can happen to the part while it is out of reset. -/
inductive Event (s : State) : State → Prop
  | port {t : State} (h : body t = body s) : Event s t
  | rejected : Event s (countRejected s)
  | admits (kind tag : Byte) (crc : Check) (fields : List Byte) : Event s (admitRequest kind tag crc fields s)
  | chooses : Event s (kickTx s)
  | frameEnds : Event s (frameEnded s)
  | resends : Event s (resendExpired s)
  | round (h : s.roundTimer = true) : Event s (roundStep s)
  | serves : Event s (serveHead s)
  | callEnds : Event s (callEnded s)
  | windowEnds : Event s (windowExpired s)
  | fallsQuiet (rx : LoopRx) : Event s (quietAfter rx s)
  | limitEnds : Event s (garbleLimit s)
  | hears (rx : LoopRx) : Event s (hearFrame rx s)
  | confirmEnds : Event s (confirmEnded s)
  | turnaroundEnds : Event s (turnaroundEnded s)
  | drainEnds : Event s (drainEnded s)
  | driveEnds : Event s (driveEnded s)
  | settleEnds : Event s (settleExpired s)
  | restEnds : Event s (restEnded s)
  | wakeEnds : Event s (wakeEnded s)
  | wakeSettles : Event s (wakeSettled s)
  | dominant : Event s (lineWentDominant s)
  | recessive (lasted : Nat) : Event s (lineWentRecessive lasted s)
  | fault : Event s (takeLineFault s)

/-- A sequence of events. -/
def Events : State → State → Prop := Relation.ReflTransGen Event

theorem Events.none (s : State) : Events s s := .refl

theorem Events.of (h : Event s t) : Events s t := .single h

theorem Events.trans {u : State} (h : Events s t) (h' : Events t u) : Events s u := Relation.ReflTransGen.trans h h'

/-- What every event keeps, a sequence of events keeps. -/
theorem Events.keeps {I : State → Prop} (hI : ∀ {s t}, Event s t → I s → I t) (h : Events s t) (hs : I s) : I t := by
  induction h with
  | refl => exact hs
  | tail _ h ih => exact hI h ih

/-- R138: a discard counts the frame. -/
theorem discardFrame_events (s : State) : Events s (discardFrame s) :=
  (Events.of (.port (s := s) (t := { s with rx := huntRx }) rfl)).trans (.of .rejected)

/-- R137, R138: a byte is stored, or ends a frame that is admitted or discarded. -/
theorem rxByte_events (b : Byte) (s : State) : Events s (rxByte b s).1 := by
  have finish : ∀ stored, Events s (finishFrame stored s).1 := fun stored => by
    unfold finishFrame
    split
    · refine (Events.of (.port (s := s) (t := { s with rx := huntRx }) rfl)).trans (.trans ?_ (.of .chooses))
      unfold admitBody
      split
      · exact .of (.admits ..)
      · exact .none _
    · exact discardFrame_events s
  have store : ∀ state stored, Events s (storeByte state stored s) := fun _ _ => .of (.port rfl)
  unfold rxByte
  dsimp only
  split
  · split
    · exact store _ _
    · exact .none s
  · split
    · exact store _ _
    · exact discardFrame_events s
  · exact store _ _
  · split
    · exact store _ _
    · exact finish _

theorem rxBytes_events (n : Nat) (bytes : List Byte) (s : State) : Events s (rxBytes n bytes s) := by
  induction n generalizing bytes s with
  | zero => exact .none s
  | succ n ih =>
    cases bytes with
    | nil => exact .none s
    | cons b bs => exact (rxByte_events b s).trans (ih _ _)

theorem receive_events (bytes : List Byte) (s : State) : Events s (receive bytes s) := rxBytes_events _ bytes s

theorem interByteTimeout_events (s : State) : Events s (interByteTimeout s) := by
  have discarded := (discardFrame_events s).trans (receive_events (s.rx.stored.drop 1) (discardFrame s))
  unfold interByteTimeout
  split
  · exact .none s
  all_goals exact discarded

/-! ## Commands -/

/-- What a command does: events while the part is out of reset; a start from the power-up state; nothing but the level of
the line while it is held in reset. -/
inductive Effect (s : State) : State → Prop
  | events {t : State} (h : s.rstHigh = true) (he : Events s t) : Effect s t
  | starts {t : State} (high : Bool) (hm : ∀ run, Moves run { blankPart s with rstHigh := high } t) : Effect s t
  | held (h : s.rstHigh = false) (level : Bool) : Effect s { s with lineDominant := level }

/-- R152: the part leaves reset with READY in its notice list. -/
theorem leaveReset_starts {u : State} (hr : u.rstHigh = true) (hl : u.lineDominant = s.lineDominant) :
    Effect s (leaveReset u) := by
  have hu : body (blankPart (readStraps u)) = body { blankPart s with rstHigh := true } := by
    simp [body, blankPart, readStraps, hr, hl]
  refine .starts true fun run => .afterRest (t := blankPart (readStraps u)) ?_ hu
  have started : Moves run (startPart (if u.cold then .power else .pin) (readStraps u)) _ :=
    .rest (t := { startPart (if u.cold then .power else .pin) (readStraps u) with cold := false }) rfl
  exact (notify_moves _ _).trans (started.trans (kickTx_moves _))

theorem live_effect {f : State → State} (hf : Events s (f s)) (h : live f s = .next t) : Effect s t := by
  unfold live at h
  split at h
  · next hr =>
    cases h
    exact .events hr (hf.trans (.of .chooses))
  · next hr =>
    cases h
    exact .held (Bool.eq_false_iff.2 hr) s.lineDominant

/-- Every command is such an effect. -/
theorem exec_effect {c : Instr} (h : exec c s = .next t) : Effect s t := by
  have port : ∀ {kind tag fields}, requestOf c = some (kind, tag, fields) → Effect s t := fun hc =>
    live_effect (receive_events _ s) (hostRequest.eq_def _ _ _ s ▸ exec_of_requestOf hc s ▸ h)
  have heard : ∀ {type addr ps payload}, nodeAnswer type addr ps payload s = .next t → Effect s t := fun h =>
    live_effect (.of (.hears _)) h
  cases c
  case powerUp rate1 rate0 =>
    cases h
    dsimp only
    split
    · next hr => exact leaveReset_starts hr rfl
    · next hr =>
      have hlow : s.rstHigh = false := Bool.eq_false_iff.2 hr
      exact .starts false fun _ => .rest (by simp [body, readStraps, setStraps, blankPart, hlow])
  case resetPinAssert =>
    cases h
    exact .starts false fun _ => .none _
  case resetPinRelease rate1 rate0 =>
    cases h
    split
    · next hr => exact .events hr (.none s)
    · exact leaveReset_starts rfl rfl
  case hostFrameDiscard bytes => exact live_effect (receive_events bytes s) h
  case hostInterbyteTimeout bytes =>
    exact live_effect (f := fun s => interByteTimeout (receive bytes s))
      ((receive_events bytes s).trans (interByteTimeout_events _)) h
  case hostFrameSent => exact live_effect (.of .frameEnds) h
  case resendTimerExpiry => exact live_effect (.of .resends) h
  case roundStart =>
    refine live_effect (f := fun s => if s.roundTimer then roundStep s else s) ?_ h
    split
    · next hr => exact .of (.round hr)
    · exact .none s
  case recallCountdownExpiry =>
    refine live_effect (f := fun s => if s.roundTimer ∧ s.recallCountdown ≤ 1 then roundStep s else s) ?_ h
    split
    · next hr => exact .of (.round hr.1)
    · exact .none s
  case serveDueEntry => exact live_effect (.of .serves) h
  case callSent => exact live_effect (.of .callEnds) h
  case replyWindowExpiry => exact live_effect (.of .windowEnds) h
  case garbledSettled rx => exact live_effect (.of (.fallsQuiet rx)) h
  case garbleLimitExpiry => exact live_effect (.of .limitEnds) h
  case confirmSent => exact live_effect (.of .confirmEnds) h
  case turnaroundEnd => exact live_effect (.of .turnaroundEnds) h
  case drainEnd => exact live_effect (.of .drainEnds) h
  case resetDriveExpiry => exact live_effect (.of .driveEnds) h
  case resetSettleExpiry => exact live_effect (.of .settleEnds) h
  case restSent => exact live_effect (.of .restEnds) h
  case wakeSent => exact live_effect (.of .wakeEnds) h
  case wakeSettleExpiry => exact live_effect (.of .wakeSettles) h
  case lineDominant =>
    simp only [exec, execLineDominant] at h
    split at h
    · exact live_effect (.of .dominant) h
    · next hr => cases h; exact .held (Bool.eq_false_iff.2 hr) true
  case lineRecessive lasted =>
    simp only [exec, execLineRecessive] at h
    split at h
    · exact live_effect (.of (.recessive lasted)) h
    · next hr => cases h; exact .held (Bool.eq_false_iff.2 hr) false
  case lineFault => exact live_effect (.of .fault) h
  case data => exact heard h
  case taken => exact heard h
  case hold => exact heard h
  case refuse => exact heard h
  case cleared => exact heard h
  case present => exact heard h
  case dismissed => exact heard h
  case ident => exact heard h
  case adopted => exact heard h
  all_goals exact port rfl

/-- A step is such an effect of its command, the queue aside. -/
theorem step_effect (h : step s = .next t) : ∃ u, body u = body s ∧ Effect u t := by
  unfold step at h
  split at h
  · next c rest _ => exact ⟨{ s with pending := rest }, rfl, exec_effect h⟩
  · cases h
    by_cases hr : s.rstHigh = true
    · exact ⟨s, rfl, .events hr (.none s)⟩
    · exact ⟨s, rfl, .held (Bool.eq_false_iff.2 hr) s.lineDominant⟩

end Sys2Proof.Machine
end

section
/-! Events taken apart into changes of the tables, of the Loop Engine and of the line, and the invariants of the tables
and of the pool that every such change keeps (R2, R8, R22, R49, R87, R149, R154). -/

set_option Elab.async false

namespace Sys2Proof.Machine

variable {run line : Prop} {s t : State}

theorem Moves.engine_eq (h : Moves run s t) : t.engine = s.engine :=
  congrArg (fun c => c.2.2.2.1) h.control

theorem Moves.txn_eq (h : Moves run s t) : t.txn = s.txn :=
  congrArg (fun c => c.2.2.2.2.1) h.control

theorem Moves.loop_eq (h : Moves run s t) : t.loop = s.loop :=
  congrArg (fun c => c.2.2.2.2.2.1) h.control

/-! ## The kinds of act -/

/-- The part less what the Line Controller and the line alone read and set. -/
def offLine (s : State) : State :=
  { body s with
    lineDominant := false, roundTimer := false, loop := .off, drainTarget := none, phase := .quiet, domTimer := false }

/-- R53: calls may be sent. -/
abbrev LineFree (s : State) : Prop := s.loop = .running ∧ s.engine = .idle

/-- One act of the part: a change of the tables, of the line, or of the transaction in flight. `run` says where new work
may begin; `line` says that the loop state and the line may change, upon which a sift need not be settled at once. -/
inductive Act (run line : Prop) (s : State) : State → Prop
  | moved {t : State} (h : Move run s t) : Act run line s t
  | lineChanged {t : State} (hl : line) (h : offLine t = offLine s) : Act run line s t
  | restarted (hl : line) (high : Bool) : Act run line s { blankPart s with rstHigh := high }
  | called (t : Transaction) (he : LineFree s) (hc : t.call ≠ .fetch) : Act run line s (startCall t s)
  | fetched (t : Transaction) {b : Block} {rest : List Block} (he : LineFree s) (ht : t.entry.isPipe = true)
      (hc : t.call = .fetch) (hf : s.free = b :: rest) : Act run line s (startCall t { s with free := rest, catchSlot := some b })
  | engineOn (e : EngineState) (he : ¬EngineResting s) (hi : e ≠ .idle) (ht : e ≠ .turnaround) :
      Act run line s { s with engine := e }
  | idled (he : EngineResting s ∨ s.txn = none) : Act run line s { s with engine := .idle }
  | txnNoted (f : Transaction → Transaction) (hc : ∀ t, (f t).call = t.call) (he : ∀ t, (f t).entry = t.entry) :
      Act run line s { s with txn := s.txn.map f }
  | ended {t : Transaction} {u : State} (ht : s.txn = some t) (e : EngineState) (hr : e = .idle ∨ e = .turnaround)
      (hm : Moves True { s with engine := e, txn := none, loopTx := none } u)
      (hc : (s.catchSlot ≠ none → t.call = .fetch ∧ t.entry.isPipe = true) → u.catchSlot = none)
      (hs : ¬line → s.loop ≠ .running → u.sift.state = .idle) : Act run line s u

/-- A sequence of acts. -/
def Acts (run line : Prop) : State → State → Prop := Relation.ReflTransGen (Act run line)

theorem Acts.none (s : State) : Acts run line s s := .refl

theorem Acts.of (h : Act run line s t) : Acts run line s t := .single h

theorem Acts.trans {u : State} (h : Acts run line s t) (h' : Acts run line t u) :
    Acts run line s u := Relation.ReflTransGen.trans h h'

theorem Acts.moves (h : Moves run s t) : Acts run line s t :=
  Relation.ReflTransGen.mono (fun _ _ hm => Act.moved hm) _ _ h

theorem Acts.ofLine (h : offLine t = offLine s) : Acts run True s t := .of (.lineChanged trivial h)

theorem ite_acts {c : Prop} [Decidable c] {u v : State} (hu : c → Acts run line s u) (hv : ¬c → Acts run line s v) :
    Acts run line s (if c then u else v) := by
  split
  · exact hu ‹_›
  · exact hv ‹_›

/-! ## What acts keep -/

/-- The tables that only changes of the tables touch: all but the pool's free list and catch slot. -/
def records (s : State) : State :=
  { offLine s with rstHigh := true, engine := .idle, txn := none, free := [], catchSlot := none }

/-- An invariant of those tables that the power-up state meets and every change of the tables keeps, every act keeps. -/
theorem Act.keeps {I : State → Prop} (hread : ∀ u, I (records u) ↔ I u) (hblank : I (blankPart State.reset))
    (hmove : ∀ {u v}, Move True u v → I u → I v) (h : Act True line s t) (hs : I s) : I t := by
  have same : ∀ {u v}, records v = records u → I u → I v := fun e hu => (hread _).1 (e ▸ (hread _).2 hu)
  cases h with
  | moved h => exact hmove h hs
  | lineChanged _ h =>
    exact same (congrArg
      (fun u : State => { u with rstHigh := true, engine := .idle, txn := none, free := [], catchSlot := none }) h) hs
  | restarted _ high => exact same (u := blankPart State.reset) rfl hblank
  | ended ht e _ hm _ _ => exact hm.keeps hmove (same (u := s) rfl hs)
  | _ => exact same (u := s) rfl hs

/-- R2: the power-up pool holds each block once. -/
theorem freshPool_index : freshPool.map (·.index) = List.range Config.poolBlocks := by
  rw [freshPool, List.map_map]
  exact List.map_id _

/-- R2, R7, R62: every act keeps the pool consistent. -/
theorem Act.pool (h : Act run line s t) (hs : PoolConsistent s) : PoolConsistent t := by
  obtain ⟨hperm, hrest, hslot, hfetch, hpipe⟩ := id hs
  cases h with
  | moved h =>
    have heng := (Moves.of h).engine_eq
    have htxn := (Moves.of h).txn_eq
    have hcs : t.catchSlot ≠ none → s.catchSlot ≠ none := mt h.catchSlot
    refine ⟨h.placed.trans hperm, fun hr => ?_, fun hne => htxn ▸ hslot (hcs hne), fun t ht hne => ?_, fun t ht => ?_⟩
    · exact htxn ▸ hrest (by simpa [EngineResting, heng] using hr)
    · exact hfetch t (htxn ▸ ht) (hcs hne)
    · exact hpipe t (htxn ▸ ht)
  | lineChanged _ h =>
    have hread : ∀ u, PoolConsistent (offLine u) ↔ PoolConsistent u := fun _ => Iff.rfl
    exact (hread _).1 (h ▸ (hread _).2 hs)
  | restarted _ high =>
    refine ⟨?_, fun _ => rfl, fun h => absurd rfl h, nofun, nofun⟩
    simp [placedBlocks, blankPart, freshPool_index]
  | called t he hc =>
    have hnone := hrest (.inl he.2)
    have hempty : s.catchSlot = none := by_contra fun h => hslot h hnone
    refine ⟨hperm, fun hr => ?_, fun h => absurd hempty h, fun _ _ h => absurd hempty h, fun u hu hf => ?_⟩
    · rcases hr with hr | hr <;> cases hr
    · obtain rfl : t = u := by simpa [startCall] using hu
      exact absurd hf hc
  | @fetched t b rest he ht hc hf =>
    have hempty : s.catchSlot = none := by_contra fun h => hslot h (hrest (.inl he.2))
    refine ⟨?_, fun hr => ?_, fun _ h => (by cases h), fun u hu _ => ?_, fun u hu _ => ?_⟩
    · refine (List.perm_iff_count.2 fun i => ?_).trans hperm
      simp only [count_placedBlocks, startCall, hempty, hf, Option.toList, List.map_cons, List.map_nil, List.count_cons,
        List.count_nil]
      omega
    · rcases hr with hr | hr <;> cases hr
    · obtain rfl : t = u := by simpa [startCall] using hu
      exact hc
    · obtain rfl : t = u := by simpa [startCall] using hu
      exact ht
  | engineOn e he hi ht =>
    exact ⟨hperm, fun hr => (hr.elim hi ht).elim, hslot, hfetch, hpipe⟩
  | idled he => exact ⟨hperm, fun _ => he.elim hrest id, hslot, hfetch, hpipe⟩
  | txnNoted f hc he =>
    refine ⟨hperm, fun hr => ?_, fun hne => ?_, fun u hu hne => ?_, fun u hu hf => ?_⟩
    · simp [hrest hr]
    · simpa using hslot hne
    · obtain ⟨v, hv, rfl⟩ := Option.map_eq_some_iff.1 hu
      exact (hc v).trans (hfetch v hv hne)
    · obtain ⟨v, hv, rfl⟩ := Option.map_eq_some_iff.1 hu
      rw [he]
      exact hpipe v hv ((hc v).symm.trans hf)
  | @ended t' _ ht e _ hm hc _ =>
    have htxn := hm.txn_eq
    have hempty := hc fun hne => ⟨hfetch t' ht hne, hpipe t' ht (hfetch t' ht hne)⟩
    refine ⟨hm.placed.trans hperm, fun _ => htxn, fun h => absurd hempty h, fun u hu => ?_, fun u hu => ?_⟩
    · rw [htxn] at hu
      cases hu
    · rw [htxn] at hu
      cases hu

/-! ## The end of a transaction -/

/-- R16: the catch slot is empty once the end of a FETCH has been reported. -/
theorem reportEnd_catchSlot {t : Transaction} {s : State} (e : TxnEnd)
    (h : s.catchSlot ≠ none → t.call = .fetch ∧ t.entry.isPipe = true) : (reportEnd t e s).catchSlot = none := by
  by_cases hs : s.catchSlot = none
  · exact (reportEnd_moves trivial t e s).keeps (I := fun u => u.catchSlot = none) Move.catchSlot hs
  · obtain ⟨hcall, hentry⟩ := h hs
    have freed : ∀ u, (catchToFree u).catchSlot = none := fun u => by
      unfold catchToFree
      split
      · rfl
      · assumption
    have queued : ∀ h u, (catchToQueue h u).catchSlot = none := fun h u => by
      unfold catchToQueue
      split
      · rfl
      · rfl
      · assumption
    unfold reportEnd
    cases he : t.entry with
    | pipe h =>
      dsimp only
      unfold endPipeTxn
      split
      · next p _ =>
        have settledBlock : (settleBlock h t.call e (countOutcome t.call e s)).catchSlot = none := by
          simp only [settleBlock, hcall]
          split
          · exact queued _ _
          · exact freed _
        refine Moves.keeps (run := True) (I := fun u => u.catchSlot = none) Move.catchSlot
          ((settleSilence_moves p.node e _).trans ?_) settledBlock
        exact ite_moves (fun _ => completeClose_moves h _) fun _ => settlePipe_moves trivial h t.call e _ _
      · exact freed _
    | _ => simp [he, DueEntry.isPipe] at hentry

/-- R116, R117: no sift is active once one has been cancelled. -/
theorem cancelSift_idle (s : State) : (cancelSift s).sift.state = .idle := by
  unfold cancelSift
  split
  · exact (answerDeferred_moves (run := False) _ _ _ _).keeps (I := fun u => u.sift.state = .idle)
      (fun h => h.sift_idle id) rfl
  · next h => exact not_not.1 (mt siftActive_iff.2 h)

theorem endTxn_acts (e : TxnEnd) (s : State) : Acts run line s (endTxn e s) := by
  cases ht : s.txn with
  | none =>
    simp only [endTxn, ht]
    exact .none s
  | some t =>
    simp only [endTxn, ht]
    have cancelled : ∀ u, Moves True u (if u.loop = .running then u else cancelSift u) := fun u =>
      ite_moves (fun _ => .none u) fun _ => cancelSift_moves u
    refine .of (.ended ht .turnaround (.inr rfl) ((reportEnd_moves trivial t e _).trans (cancelled _)) (fun hc => ?_)
      fun _ hl => ?_)
    · exact (cancelled _).keeps (I := fun u => u.catchSlot = none) Move.catchSlot (reportEnd_catchSlot e hc)
    · have hrun : (reportEnd t e { s with engine := .turnaround, txn := none, loopTx := none }).loop ≠ .running :=
        (reportEnd_moves trivial t e _).loop_eq.trans_ne hl
      rw [if_neg hrun]
      exact cancelSift_idle _

/-! ## Service -/

theorem startCall_acts {u : State} {t : Transaction} (hm : Moves run s u) (he : LineFree s) (hc : t.call ≠ .fetch) :
    Acts run line s (startCall t u) := by
  exact (Acts.moves hm).trans (.of (.called t ⟨hm.loop_eq.trans he.1, hm.engine_eq.trans he.2⟩ hc))

theorem servePipe_acts (h : Nat) (he : LineFree s) : Acts run line s (servePipe h s) := by
  unfold servePipe
  split
  · next p _ =>
    split
    · exact startCall_acts (.none s) he (by simp [pipeCall])
    · unfold serveFetch
      split
      · next hf => exact .of (.fetched _ he rfl rfl hf)
      · have counted : Moves run s { s with
            counters := { s.counters with fetchStarvations := sat16 s.counters.fetchStarvations } } :=
          .of (.counted _ fun ⟨h1, h2, h3, h4, h5, _, h7⟩ => ⟨h1, h2, h3, h4, h5, sat16_le _, h7⟩)
        exact .moves (counted.trans (setCountdown_moves _ _ _))
    · unfold serveDeliver
      split
      · exact startCall_acts (markOutboundHead_moves _ _ s) he (by simp [pipeCall])
      · exact .none s
    all_goals exact .none s
  · exact .none s

theorem serveProbe_acts {u : State} (hr : run) (hm : Moves run s u) (he : LineFree s) : Acts run line s (serveProbe u) := by
  unfold serveProbe
  split
  · exact startCall_acts (hm.trans (updSift_moves hr (.inr rfl) id)) he (by simp [nodeCall])
  · exact .moves hm

theorem serveEntry_acts (hr : run) (e : DueEntry) (he : LineFree s) : Acts run line s (serveEntry e s) := by
  have call : ∀ {t : Transaction}, t.call ≠ .fetch → Acts run line s (startCall t s) := startCall_acts (.none s) he
  cases e with
  | pipe h => exact servePipe_acts h he
  | dismiss a =>
    simp only [serveEntry, serveDismiss]
    split
    · exact ite_acts (fun _ => call (by simp [nodeCall])) fun _ => .none s
    · exact .none s
  | sift =>
    simp only [serveEntry, serveSift]
    split
    · exact serveProbe_acts hr (.none s) he
    · split
      · exact ite_acts (fun _ => serveProbe_acts hr (dropHeld_eq s ▸ heldReleased_moves hr s) he) fun _ =>
          call (by simp [nodeCall])
      · exact .none s
    · exact .none s
  | _ a =>
    simp only [serveEntry, serveRecall]
    split
    · exact ite_acts (fun _ => call (by simp [nodeCall])) fun _ => .none s
    · exact .none s

theorem serveHead_acts (hr : s.loop = .running → run) : Acts run line s (serveHead s) := by
  unfold serveHead
  split
  · next hf =>
    have he : LineFree s := of_decide_eq_true hf
    split
    · next e rest hd =>
      have popped : Moves run s { s with due := rest } := .of (.dueRemoved rest (hd ▸ List.sublist_cons_self e rest))
      exact (Acts.moves popped).trans (serveEntry_acts (hr he.1) e (s := { s with due := rest }) he)
    · exact .none s
  · exact .none s

/-! ## Answers -/

theorem updTxn_acts {f : Transaction → Transaction} (s : State) (hc : ∀ t, (f t).call = t.call)
    (he : ∀ t, (f t).entry = t.entry) : Acts run line s (updTxn f s) := .of (.txnNoted f hc he)

theorem settleValid_acts (t : Transaction) (v : ValidAnswer) (he : s.engine = .awaiting) :
    Acts run line s (settleValid t v s) := by
  cases v with
  | ends e => exact endTxn_acts e s
  | data seq payload =>
    have on : Acts run line s { s with engine := .confirming } :=
      .of (.engineOn .confirming (by simp [EngineResting, he]) nofun nofun)
    have sent := (writeCatch_moves (run := run) payload
      { s with engine := .confirming, loopTx := some (confirmFrame t seq) }).afterRest (s := { s with engine := .confirming }) rfl
    exact (on.trans (.moves sent)).trans (updTxn_acts _ (fun _ => rfl) fun _ => rfl)

theorem hearFrame_acts (rx : LoopRx) (s : State) : Acts run line s (hearFrame rx s) := by
  unfold hearFrame
  split
  · next t he _ =>
    split
    · exact settleValid_acts t _ he
    · exact (Acts.moves (storeHeard_moves t rx s)).trans (updTxn_acts _ (fun _ => rfl) fun _ => rfl)
  · exact .none s

theorem quietAfter_acts (rx : LoopRx) (s : State) : Acts run line s (quietAfter rx s) := by
  unfold quietAfter
  split
  · next t he _ =>
    split
    · exact settleValid_acts t _ he
    · exact ite_acts (fun _ => (Acts.moves (storeHeard_moves t rx s)).trans (endTxn_acts _ _)) fun _ => .none s
  · exact .none s

theorem windowExpired_acts (s : State) : Acts run line s (windowExpired s) := by
  unfold windowExpired
  split
  · exact ite_acts (fun _ => endTxn_acts _ s) fun _ => .none s
  · exact .none s

theorem garbleLimit_acts (s : State) : Acts run line s (garbleLimit s) := by
  unfold garbleLimit
  split
  · next t _ _ => exact ite_acts (fun _ => .none s) fun _ => (Acts.moves (storeCutOff_moves t s)).trans (endTxn_acts _ _)
  · exact .none s

theorem confirmEnded_acts (s : State) : Acts run line s (confirmEnded s) := by
  unfold confirmEnded
  split
  · split
    · exact endTxn_acts _ s
    · exact .none s
  · exact .none s

theorem callEnded_acts (s : State) : Acts run line s (callEnded s) := by
  refine ite_acts (fun he => ?_) fun _ => .none s
  have on : Acts run line s { s with engine := .awaiting } := .of (.engineOn .awaiting (by simp [EngineResting, he]) nofun nofun)
  have sent : Moves run { s with engine := .awaiting } { s with engine := .awaiting, loopTx := none } := .rest rfl
  exact (on.trans (.moves sent)).trans (updTxn_acts _ (fun _ => rfl) fun _ => rfl)

theorem turnaroundEnded_acts (s : State) : Acts run line s (turnaroundEnded s) :=
  ite_acts (fun he => .of (.idled (.inl (.inr he)))) fun _ => .none s

theorem abandonTxn_acts (s : State) : Acts True True s (abandonTxn s) := by
  unfold abandonTxn
  split
  · next t ht =>
    have stored : Moves True { s with engine := .idle, txn := none, loopTx := none }
        (if t.verdict = none then storeCutOff t { s with engine := .idle, txn := none, loopTx := none }
          else { s with engine := .idle, txn := none, loopTx := none }) :=
      ite_moves (fun _ => storeCutOff_moves t _) fun _ => .none _
    refine .of (.ended ht .idle (.inl rfl) (stored.trans (reportEnd_moves trivial t _ _)) (fun hc => ?_)
      fun h => absurd trivial h)
    refine reportEnd_catchSlot _ fun hne => hc fun hs => hne ?_
    exact stored.keeps (I := fun u => u.catchSlot = none) Move.catchSlot hs
  · next ht =>
    exact (Acts.of (.idled (.inr ht))).trans (.moves (.rest (by simp [body, ht])))

/-! ## The loop state -/

theorem clearAndSettle_acts {u : State} (h : offLine u = offLine s) : Acts True True s (clearAndSettle u) :=
  (Acts.ofLine h).trans (.moves (clearAndSettle_moves u))

theorem beginDrain_acts (target : DrainTarget) (s : State) : Acts True True s (beginDrain target s) :=
  (Acts.ofLine (s := s) (t := { s with loop := .draining, drainTarget := some target, roundTimer := false }) rfl).trans
    (ite_acts (fun _ => .none _) fun _ => .moves (cancelSift_moves _))

theorem enterRunning_acts (s : State) : Acts True True s (enterRunning s) :=
  (Acts.ofLine (s := s) (t := { s with loop := .running, roundTimer := true }) rfl).trans (.moves (roundStep_moves trivial _))

theorem enterStopped_acts (s : State) : Acts True True s (enterStopped s) := clearAndSettle_acts rfl

theorem sendRest_acts (s : State) : Acts True True s (sendRest s) := clearAndSettle_acts rfl

theorem startWake_acts (s : State) : Acts True True s (startWake s) := .ofLine rfl

theorem enterResetting_acts (s : State) : Acts True True s (enterResetting s) := by
  have cleared : ∀ u, Moves True u (dropAllNodes u) := fun u => .of .nodesCleared
  have entered : Acts True True s { s with
      loop := .resetting, drainTarget := none, phase := .resetDrive, domTimer := false, roundTimer := false } := .ofLine rfl
  refine entered.trans (.moves ?_)
  exact ((resetDue_moves _).trans (noteRemoved_moves _ _ _)).trans ((dropAllPipes_moves _).trans (cleared _))

theorem drainEnded_acts (s : State) : Acts True True s (drainEnded s) := by
  refine ite_acts (fun _ => ?_) fun _ => .none s
  unfold reachTarget
  split
  · exact (enterStopped_acts s).trans (.moves (answerSlot_moves _ _))
  · exact ite_acts (fun _ => sendRest_acts s) fun _ => .none s
  · exact ite_acts (fun _ => enterResetting_acts s) fun _ => .none s
  · exact .none s

theorem endSettle_acts (s : State) : Acts True True s (endSettle s) := by
  have quiet : Acts True True s { s with phase := .quiet } := .ofLine rfl
  refine quiet.trans (.trans ?_ (.moves (answerSlot_moves _ _)))
  exact ite_acts (fun _ => enterRunning_acts _) fun _ => .ofLine rfl

theorem restEnded_acts (s : State) : Acts True True s (restEnded s) := by
  refine ite_acts (fun _ => ?_) fun _ => .none s
  have resting : Acts True True s { s with
      loop := .resting, phase := .quiet, drainTarget := none, loopTx := none, domTimer := s.lineDominant } := .ofLine rfl
  exact resting.trans (.moves (answerSlot_moves _ _))

theorem wakeSettled_acts (s : State) : Acts True True s (wakeSettled s) := by
  refine ite_acts (fun _ => ?_) fun _ => .none s
  have quiet : Acts True True s { s with phase := .quiet } := .ofLine rfl
  exact quiet.trans ((enterRunning_acts _).trans (.moves (answerSlot_moves _ _)))

theorem lineWentDominant_acts (s : State) : Acts True True s (lineWentDominant s) := by
  refine ite_acts (fun _ => .none s) fun _ => ?_
  have level : Acts True True s { s with lineDominant := true, domTimer := lineWatched s } := .ofLine rfl
  exact level.trans (ite_acts (fun _ => updTxn_acts _ (fun _ => rfl) fun _ => rfl) fun _ => .none _)

theorem lineWentRecessive_acts (lasted : Nat) (s : State) : Acts True True s (lineWentRecessive lasted s) := by
  refine ite_acts (fun _ => ?_) fun _ => .none s
  have level : Acts True True s { s with lineDominant := false, domTimer := false } := .ofLine rfl
  refine level.trans ?_
  unfold levelEnded
  split
  · refine ite_acts (fun _ => (Acts.moves (notify_moves .wakeSeen _)).trans ?_) fun _ => .none _
    exact ite_acts (fun _ => startWake_acts _) fun _ => .none _
  · exact ite_acts (fun _ => startWake_acts _) fun _ => .none _
  · exact ite_acts (fun _ => endSettle_acts _) fun _ => .none _
  all_goals exact .none _

theorem takeLineFault_acts (s : State) : Acts True True s (takeLineFault s) := by
  refine ite_acts (fun _ => (abandonTxn_acts s).trans ?_) fun _ => .none s
  have cleared : ∀ u, Moves True u (cancelSift (clearAndSettle u)) := fun u =>
    (clearAndSettle_moves u).trans (cancelSift_moves _)
  have stops : ∀ u, Acts True True u (stopForFault u) := fun u => .ofLine rfl
  exact (Acts.moves (cleared _)).trans ((stops _).trans (.moves ((answerSlot_moves _ _).trans (reportFault_moves _ _))))

/-- R125: the requests that a drain answers as it begins are others. -/
theorem Executing.beginDrain {kind tag : Byte} (h : Executing kind tag s) {target : DrainTarget} :
    Executing kind tag (beginDrain target s) := by
  unfold Machine.beginDrain cancelIdleSift
  split
  · exact h.of_window rfl
  · exact Executing.cancelSift (h.of_window rfl)

/-- R125: the requests answered as the loop stops are others. -/
theorem Executing.enterStopped {kind tag : Byte} (h : Executing kind tag s) : Executing kind tag (enterStopped s) :=
  Executing.clearAndSettle (h.of_window rfl)

/-- R121, R123: a loop-state request whose reply is still to come. -/
theorem loopStateAct_acts {kind tag : Byte} (h : Executing kind tag s) (ha : LoopStateAct tag s t) : Acts True True s t := by
  have answered : ∀ code reply, Acts True True s (answer tag code reply s) := fun _ _ => .moves (answer_moves h.unanswered _ _)
  have slot : ∀ r, Acts True True s (enterSlot tag r s) := fun r => .moves (enterSlot_moves h.unanswered r)
  have resumed : ∀ r b, Acts True True s (enterSlot tag r { s with resume := b }) := fun r b =>
    .moves ((enterSlot_moves (s := { s with resume := b }) h.unanswered r).afterRest rfl)
  cases ha with
  | start =>
    unfold requestStartLoop
    split
    · exact (resumed _ _).trans (enterResetting_acts _)
    · refine ite_acts (fun _ => answered _ _) fun _ => (enterRunning_acts s).trans (.moves ?_)
      have hw : (enterRunning s).window = s.window := roundStep_window _
      exact answer_moves (h.of_window hw).unanswered _ _
    all_goals exact answered _ _
  | stop =>
    unfold requestStopLoop
    split
    case h_3 =>
      refine ite_acts (fun _ => ?_) fun _ => (slot _).trans (beginDrain_acts _ _)
      have hx : Executing kind tag (enterStopped (beginDrain .stopped s)) := h.beginDrain.enterStopped
      exact ((beginDrain_acts .stopped s).trans (enterStopped_acts _)).trans (.moves (answer_moves hx.unanswered _ _))
    all_goals exact answered _ _
  | rest =>
    unfold requestRestLoop
    split
    case h_3 => exact (slot _).trans ((beginDrain_acts _ _).trans (drainEnded_acts _))
    all_goals exact answered _ _
  | wake =>
    unfold requestWakeLoop
    split
    case h_4 => exact (slot _).trans (ite_acts (fun _ => .ofLine rfl) fun _ => startWake_acts _)
    all_goals exact answered _ _
  | reset =>
    unfold requestLineReset
    split
    case h_4 => exact (resumed _ _).trans ((beginDrain_acts _ _).trans (drainEnded_acts _))
    case h_1 => exact (resumed _ _).trans (enterResetting_acts _)
    case h_2 => exact (resumed _ _).trans (enterResetting_acts _)
    case h_3 => exact (resumed _ _).trans (enterResetting_acts _)
    all_goals exact answered _ _

/-! ## Events, commands and steps -/

theorem frameEnded_acts (s : State) : Acts True True s (frameEnded s) := by
  unfold frameEnded
  split
  · split
    · exact .moves (.rest rfl)
    · refine (Acts.moves (.rest (s := s) (t := { s with tx := none }) rfl)).trans ?_
      unfold replyEnded
      split
      · exact ite_acts (fun _ => (Acts.of (.restarted trivial s.rstHigh)).trans (.moves (notify_moves _ _))) fun _ =>
          .moves (Moves.trans (.of (.requestOver _)) (.rest rfl))
      · exact .none _
    · exact .moves (.rest rfl)
  · exact .none s

theorem Event.acts (h : Event s t) : Acts True True s t := by
  cases h with
  | port h => exact .moves (.rest h)
  | rejected => exact .moves (countRejected_moves s)
  | admits kind tag crc fields =>
    rcases admitRequest_cases (run := True) (fun _ => trivial) kind tag crc fields with h | ⟨u, hu, hx, ha⟩
    · exact .moves h
    · exact (Acts.moves hu).trans (loopStateAct_acts hx ha)
  | chooses => exact .moves (kickTx_moves s)
  | frameEnds => exact frameEnded_acts s
  | resends => exact .moves (resendExpired_moves s)
  | round _ => exact .moves (roundStep_moves trivial s)
  | serves => exact serveHead_acts fun _ => trivial
  | callEnds => exact callEnded_acts s
  | windowEnds => exact windowExpired_acts s
  | fallsQuiet rx => exact quietAfter_acts rx s
  | limitEnds => exact garbleLimit_acts s
  | hears rx => exact hearFrame_acts rx s
  | confirmEnds => exact confirmEnded_acts s
  | turnaroundEnds => exact turnaroundEnded_acts s
  | drainEnds => exact drainEnded_acts s
  | driveEnds => exact ite_acts (fun _ => .ofLine rfl) fun _ => .none s
  | settleEnds =>
    exact ite_acts (fun _ => ite_acts (fun _ => .ofLine rfl) fun _ => endSettle_acts s) fun _ => .none s
  | restEnds => exact restEnded_acts s
  | wakeEnds => exact ite_acts (fun _ => .ofLine rfl) fun _ => .none s
  | wakeSettles => exact wakeSettled_acts s
  | dominant => exact lineWentDominant_acts s
  | recessive lasted => exact lineWentRecessive_acts lasted s
  | fault => exact takeLineFault_acts s

/-- Every step is a sequence of acts. -/
theorem step_acts (h : step s = .next t) : Acts True True s t := by
  obtain ⟨u, hu, he⟩ := step_effect h
  refine (Acts.moves (.rest hu)).trans ?_
  cases he with
  | events _ he =>
    exact Relation.ReflTransGen.trans_induction_on he (fun _ => .none _) (fun h => h.acts) fun _ _ => .trans
  | starts high hm => exact (Acts.of (.restarted trivial high)).trans (.moves (hm True))
  | held _ level => exact .ofLine rfl

/-- What every act keeps, a sequence of acts keeps. -/
theorem Acts.keeps {I : State → Prop} (hI : ∀ {u v}, Act run line u v → I u → I v) (h : Acts run line s t) (hs : I s) : I t := by
  induction (show Relation.ReflTransGen (Act run line) s t from h) with
  | refl => exact hs
  | tail _ ha ih => exact hI ha (ih ‹_›)

/-! ## The invariants of the tables and of the pool -/

/-- Settles O53: each act moves blocks from place to place, and a FETCH alone holds the catch slot. -/
theorem stepKeepsEveryBlockInOnePlace : Obligations.StepKeepsEveryBlockInOnePlace :=
  fun _ _ hs h => (step_acts h).keeps Act.pool hs

/-- Settles O54: each change of the request tables keeps their bounds and their tags. -/
theorem stepKeepsTheRequestTables : Obligations.StepKeepsTheRequestTables :=
  fun _ _ hs h => (step_acts h).keeps (Act.keeps (fun _ => Iff.rfl) (by decide) Move.tables) hs

/-- Settles O55: a notice takes the next number and leaves from the head of the list. -/
theorem stepKeepsNoticeNumbersConsecutive : Obligations.StepKeepsNoticeNumbersConsecutive :=
  fun _ _ hs h => (step_acts h).keeps (Act.keeps (fun _ => Iff.rfl) (by decide) Move.notices) hs

/-- Settles O56: only an entry that is not on the due list is appended. -/
theorem stepKeepsTheDueListDistinct : Obligations.StepKeepsTheDueListDistinct :=
  fun _ _ hs h => (step_acts h).keeps
    (Act.keeps (I := fun u => u.due.Nodup) (fun _ => Iff.rfl) List.nodup_nil Move.due_nodup) hs

/-- Settles O58: each count that an act raises stops at its greatest value. -/
theorem stepKeepsTheCountsBounded : Obligations.StepKeepsTheCountsBounded :=
  fun _ _ hs h => (step_acts h).keeps (Act.keeps (fun _ => Iff.rfl) (by decide) Move.counts) hs

/-- Settles O59: a pipe's fixed fields are set as its record is created under a free handle and a new key. -/
theorem stepKeepsThePipeTable : Obligations.StepKeepsThePipeTable :=
  fun _ _ hs h => (step_acts h).keeps (Act.keeps (fun _ => Iff.rfl) (by decide) Move.pipes) hs

/-- Settles O60: a node's record takes the address and the identity that were held for it, in use nowhere else. -/
theorem stepKeepsTheNodeTable : Obligations.StepKeepsTheNodeTable :=
  fun _ _ hs h => (step_acts h).keeps (Act.keeps (fun _ => Iff.rfl) (by decide) Move.nodes) hs

end Sys2Proof.Machine
end

section
/-! The loop state in agreement with its timers, the drain target, the engine, the due list and the sift (R44, R49, R62,
R105, R120, R133): what acts within a loop state keep, and each change of the loop state. -/

set_option Elab.async false

namespace Sys2Proof.Machine

variable {run : Prop} {s t : State}

/-! ## Within a loop state -/

/-- R44, R49, R105: changes of the tables keep the agreement, where new work begins only in RUNNING. -/
theorem Moves.loopConsistent (h : Moves run s t) (hr : run → s.loop = .running) (hs : LoopConsistent s) :
    LoopConsistent t := by
  have hc := h.control
  simp only [Machine.control, Prod.mk.injEq] at hc
  obtain ⟨hrst, hdom, hround, heng, htxn, hloop, htarget, hphase, htimer⟩ := hc
  have due : s.loop ≠ .running → s.due = [] → t.due = [] := fun hl =>
    h.keeps (I := fun u => u.due = []) fun hm => hm.due_nil (mt hr hl)
  have idle : s.loop ≠ .running → s.sift.state = .idle → t.sift.state = .idle := fun hl =>
    h.keeps (I := fun u => u.sift.state = .idle) fun hm => hm.sift_idle (mt hr hl)
  obtain ⟨h1, h2, h3, h4, h5, h6, h7, h8, h9, h10⟩ := hs
  simp only [LoopConsistent, LoopActive, EngineResting, siftCallInFlight, lineWatched, hrst, hdom, hround, heng, htxn,
    hloop, htarget, hphase, htimer]
  refine ⟨h1, h2, h3, h4, fun hne => ?_, fun ha => ?_, h7, fun hp => ?_, h9, h10⟩
  · by_cases hl : s.loop = .running
    · exact .inl hl
    · exact h5 fun hd => hne (due hl hd)
  · by_cases hl : s.loop = .running
    · exact .inl hl
    · exact h6 (siftActive_iff.2 fun hi => siftActive_iff.1 ha (idle hl hi))
  · obtain ⟨ht, he, hd⟩ := h8 hp
    have hl : s.loop ≠ .running := fun hl => by
      rw [h2.1 (by rw [ht]; nofun)] at hl
      cases hl
    exact ⟨ht, he, due hl hd⟩

/-- R44, R62, R120: the agreement in RUNNING. -/
theorem loopConsistent_running (hl : s.loop = .running) : LoopConsistent s ↔
    s.roundTimer = true ∧ s.drainTarget = none ∧ (EngineResting s ↔ s.txn = none) ∧ s.phase = .quiet ∧
      s.domTimer = s.lineDominant ∧ s.rstHigh = true := by
  have watched : lineWatched s = true := by simp [lineWatched, hl]
  have fits : phaseFits s.loop s.phase = true ↔ s.phase = .quiet := by simp [phaseFits, hl]
  have active : LoopActive s := .inl hl
  constructor
  · rintro ⟨h1, h2, h3, -, -, -, h7, -, h9, h10⟩
    refine ⟨h1.2 hl, not_not.1 fun h => ?_, h3, fits.1 h7, by rw [h9, watched, Bool.and_true], ?_⟩
    · rw [h2.1 h] at hl
      cases hl
    · by_contra hr
      rw [h10 (Bool.eq_false_iff.2 hr)] at hl
      cases hl
  · rintro ⟨hround, htarget, heng, hphase, hdom, hr⟩
    refine ⟨iff_of_true hround hl, iff_of_false (not_not.2 htarget) (by rw [hl]; nofun), heng, fun _ => active,
      fun _ => active, fun _ => .inl hl, fits.2 hphase, fun h => ?_, by rw [hdom, watched, Bool.and_true],
      fun h => absurd (hr.symm.trans h) nofun⟩
    rw [hphase] at h
    cases h

/-- R62, R105, R129: the agreement in DRAINING. -/
theorem loopConsistent_draining (hl : s.loop = .draining) : LoopConsistent s ↔
    s.roundTimer = false ∧ s.drainTarget ≠ none ∧ (EngineResting s ↔ s.txn = none) ∧
      (siftActive s = true → siftCallInFlight s = true) ∧
      (s.phase = .quiet ∨ s.phase = .restFrame ∧ s.drainTarget = some .resting ∧ s.engine = .idle ∧ s.due = []) ∧
      s.domTimer = s.lineDominant ∧ s.rstHigh = true := by
  have watched : lineWatched s = true := by simp [lineWatched, hl]
  have fits : phaseFits s.loop s.phase = true ↔ s.phase = .quiet ∨ s.phase = .restFrame := by simp [phaseFits, hl]
  have active : LoopActive s := .inr hl
  have notRunning : s.loop ≠ .running := by rw [hl]; nofun
  constructor
  · rintro ⟨h1, h2, h3, -, -, h6, h7, h8, h9, h10⟩
    refine ⟨Bool.eq_false_iff.2 (mt h1.1 notRunning), h2.2 hl, h3, fun ha => ((h6 ha).resolve_left notRunning).2,
      (fits.1 h7).imp_right fun hp => ⟨hp, h8 hp⟩, by rw [h9, watched, Bool.and_true], ?_⟩
    by_contra hr
    rw [h10 (Bool.eq_false_iff.2 hr)] at hl
    cases hl
  · rintro ⟨hround, htarget, heng, hsift, hphase, hdom, hr⟩
    refine ⟨by simp [hround, notRunning], iff_of_true htarget hl, heng, fun _ => active, fun _ => active,
      fun ha => .inr ⟨hl, hsift ha⟩, fits.2 (hphase.imp_right (·.1)), fun hp => ?_, by rw [hdom, watched, Bool.and_true],
      fun h => absurd (hr.symm.trans h) nofun⟩
    exact (hphase.resolve_left (by rw [hp]; nofun)).2

/-- R62, R105, R120: nothing of a round is left. -/
abbrev RoundsOver (s : State) : Prop :=
  s.roundTimer = false ∧ s.drainTarget = none ∧ s.txn = none ∧ EngineResting s ∧ s.due = [] ∧ s.sift.state = .idle

/-- R62, R105, R120: the agreement in the other loop states. -/
theorem loopConsistent_inactive (hl : ¬LoopActive s) : LoopConsistent s ↔
    RoundsOver s ∧ phaseFits s.loop s.phase = true ∧ s.domTimer = (s.lineDominant && lineWatched s) ∧
      (s.rstHigh = false → s.loop = .off) := by
  obtain ⟨hrun, hdrain⟩ := not_or.1 hl
  have idle : s.sift.state = .idle ↔ ¬siftActive s = true := (not_iff_comm.1 siftActive_iff.symm).symm
  have noRest : phaseFits s.loop s.phase = true → s.phase ≠ .restFrame := fun h hp => by
    rw [hp] at h
    cases hs : s.loop <;> simp_all [phaseFits]
  constructor
  · rintro ⟨h1, h2, h3, h4, h5, h6, h7, -, h9, h10⟩
    have htxn := not_not.1 (mt h4 hl)
    exact ⟨⟨Bool.eq_false_iff.2 (mt h1.1 hrun), not_not.1 (mt h2.1 hdrain), htxn, h3.2 htxn, not_not.1 (mt h5 hl),
      idle.2 fun ha => (h6 ha).elim hrun fun h => hdrain h.1⟩, h7, h9, h10⟩
  · rintro ⟨⟨hround, htarget, htxn, heng, hdue, hsift⟩, h7, h9, h10⟩
    exact ⟨by simp [hround, hrun], by simp [htarget, hdrain], iff_of_true heng htxn, fun h => absurd htxn h,
      fun h => absurd hdue h, fun h => absurd h (idle.1 hsift), h7, fun h => absurd h (noRest h7), h9, h10⟩

/-- R62, R66, R117: the acts of the engine keep the agreement. -/
theorem Act.loopConsistent (h : Act (s.loop = .running) False s t) (hr : s.rstHigh = true) (hs : LoopConsistent s) :
    LoopConsistent t ∧ t.loop = s.loop ∧ t.rstHigh = s.rstHigh := by
  have calls : ∀ {t u}, LineFree s → Machine.control u = Machine.control s → LoopConsistent (startCall t u) := by
    intro t u he hu
    simp only [Machine.control, Prod.mk.injEq] at hu
    obtain ⟨hrst, hdom, hround, -, -, hloop, htarget, hphase, htimer⟩ := hu
    obtain ⟨h1, h2, -, h4, h5, -⟩ := (loopConsistent_running he.1).1 hs
    refine (loopConsistent_running (s := startCall t u) (hloop.trans he.1)).2
      ⟨hround.trans h1, htarget.trans h2, ?_, hphase.trans h4,
      htimer.trans (h5.trans hdom.symm), hrst.trans hr⟩
    simp [EngineResting, startCall]
  obtain ⟨h1, h2, h3, h4, h5, h6, h7, h8, h9, h10⟩ := id hs
  cases h with
  | moved h => exact ⟨(Moves.of h).loopConsistent id hs, (Moves.of h).loop_eq, congrArg (fun c => c.1) h.control⟩
  | lineChanged hl => exact hl.elim
  | restarted hl => exact hl.elim
  | called t he _ => exact ⟨calls he rfl, rfl, rfl⟩
  | @fetched t b rest he _ _ hf => exact ⟨calls (u := { s with free := rest, catchSlot := some b }) he rfl, rfl, rfl⟩
  | engineOn e he hi ht =>
    refine ⟨⟨h1, h2, ?_, h4, h5, h6, h7, fun hp => absurd (.inl (h8 hp).2.1) he, h9, h10⟩, rfl, rfl⟩
    exact iff_of_false (fun h => h.elim hi ht) fun h => he (h3.2 h)
  | idled he =>
    have htxn := he.elim h3.1 id
    exact ⟨⟨h1, h2, iff_of_true (.inl rfl) htxn, h4, h5, h6, h7, fun hp => ⟨(h8 hp).1, rfl, (h8 hp).2.2⟩, h9, h10⟩, rfl, rfl⟩
  | txnNoted f _ hf =>
    have sift : siftCallInFlight { s with txn := s.txn.map f } = siftCallInFlight s := by
      unfold siftCallInFlight
      cases s.txn <;> simp [hf]
    refine ⟨⟨h1, h2, ?_, ?_, h5, fun ha => sift ▸ h6 ha, h7, h8, h9, h10⟩, rfl, rfl⟩
    · simpa using h3
    · simpa using h4
  | @ended txn _ ht e hr' hm _ hidle =>
    have hc := hm.control
    simp only [Machine.control, Prod.mk.injEq] at hc
    obtain ⟨hrst, hdom, hround, heng, htxn, hloop, htarget, hphase, htimer⟩ := hc
    have hresting : EngineResting t := by simpa [EngineResting, heng] using hr'
    refine ⟨?_, hloop, hrst⟩
    rcases h4 (by rw [ht]; nofun) with hl | hl
    · obtain ⟨h1, h2, -, h4, h5, h6⟩ := (loopConsistent_running hl).1 hs
      exact (loopConsistent_running (hloop.trans hl)).2 ⟨hround.trans h1, htarget.trans h2, iff_of_true hresting htxn,
        hphase.trans h4, htimer.trans (h5.trans hdom.symm), hrst.trans h6⟩
    · obtain ⟨h1, h2, h3, -, h5, h6, h7⟩ := (loopConsistent_draining hl).1 hs
      have hquiet : s.phase = .quiet := h5.resolve_right fun h => by
        rw [h3.1 (.inl h.2.2.1)] at ht
        cases ht
      have hsift := hidle id (by rw [hl]; nofun)
      exact (loopConsistent_draining (hloop.trans hl)).2 ⟨hround.trans h1, fun h => h2 (htarget.symm.trans h),
        iff_of_true hresting htxn, fun ha => absurd hsift (siftActive_iff.1 ha), .inl (hphase.trans hquiet),
        htimer.trans (h6.trans hdom.symm), hrst.trans h7⟩

/-- The agreement, of a part that is out of reset. -/
abbrev LoopAgrees (s : State) : Prop := s.rstHigh = true ∧ LoopConsistent s

/-- R62, R66: a sequence of acts of the engine keeps the agreement. -/
theorem Acts.loopAgrees (h : Acts (s.loop = .running) False s t) (hs : LoopAgrees s) : LoopAgrees t := by
  have key : LoopAgrees t ∧ t.loop = s.loop := by
    induction (show Relation.ReflTransGen (Act (s.loop = .running) False) s t from h) with
    | refl => exact ⟨hs, rfl⟩
    | tail _ ha ih =>
      obtain ⟨hu, hl⟩ := ih ‹_›
      obtain ⟨hv, hvl, hvr⟩ := (hl ▸ ha).loopConsistent hu.1 hu.2
      exact ⟨⟨hvr.trans hu.1, hv⟩, hvl.trans hl⟩
  exact key.1

/-- R44, R49, R105: changes of the tables keep it, where no new work begins. -/
theorem Moves.loopAgrees (h : Moves False s t) (hs : LoopAgrees s) : LoopAgrees t :=
  ⟨(congrArg (fun c => c.1) h.control).trans hs.1, h.loopConsistent False.elim hs.2⟩

end Sys2Proof.Machine
end

section
/-! Each change of the loop state leaves it in agreement with its timers, the drain target, the engine, the due list and
the sift, and so does every step (R44, R49, R62, R105, R120, R133). -/

set_option Elab.async false

namespace Sys2Proof.Machine

variable {s t : State}

/-! ## Loop states without rounds -/

theorem LoopAgrees.over (h : LoopAgrees s) (hl : ¬LoopActive s) : RoundsOver s := ((loopConsistent_inactive hl).1 h.2).1

/-- R120: a loop state without rounds. -/
theorem loopAgrees_inactive (hr : s.rstHigh = true) (hl : ¬LoopActive s) (ho : RoundsOver s)
    (hp : phaseFits s.loop s.phase = true) (hd : s.domTimer = (s.lineDominant && lineWatched s)) : LoopAgrees s :=
  ⟨hr, (loopConsistent_inactive hl).2 ⟨ho, hp, hd, fun h => absurd (hr.symm.trans h) nofun⟩⟩

/-- R62: changes of the tables start nothing where no new work begins. -/
theorem RoundsOver.moves (ho : RoundsOver s) (h : Moves False s t) : RoundsOver t := by
  obtain ⟨h1, h2, h3, h4, h5, h6⟩ := ho
  have hc := h.control
  simp only [Machine.control, Prod.mk.injEq] at hc
  obtain ⟨-, -, hround, heng, htxn, -, htarget, -, -⟩ := hc
  exact ⟨hround.trans h1, htarget.trans h2, htxn.trans h3, by simpa [EngineResting, heng] using h4,
    h.keeps (I := fun u => u.due = []) (fun hm => hm.due_nil id) h5,
    h.keeps (I := fun u => u.sift.state = .idle) (fun hm => hm.sift_idle id) h6⟩

/-- R56: clearing the due list leaves it empty. -/
theorem clearAndSettle_due (s : State) : (clearAndSettle s).due = [] :=
  (settleDismissals_moves (run := False) (clearDue s)).keeps (I := fun u => u.due = []) (fun hm => hm.due_nil id)
    (forEach_keeps (P := fun u => u.due = []) (fun e u hu => by cases e <;> exact hu) s.due rfl)

/-- R62, R105: no sift, no transaction, nothing of the rounds but the due list. -/
abbrev CallsOver (s : State) : Prop :=
  s.roundTimer = false ∧ s.drainTarget = none ∧ s.txn = none ∧ EngineResting s ∧ s.sift.state = .idle

/-- R56, R100: the due list cleared, nothing is left. -/
theorem CallsOver.clearAndSettle (h : CallsOver s) : RoundsOver (clearAndSettle s) := by
  have hm := clearAndSettle_moves (run := False) s
  have hc := hm.control
  simp only [Machine.control, Prod.mk.injEq] at hc
  obtain ⟨-, -, hround, heng, htxn, -, htarget, -, -⟩ := hc
  obtain ⟨h1, h2, h3, h4, h5⟩ := h
  exact ⟨hround.trans h1, htarget.trans h2, htxn.trans h3, by simpa [EngineResting, heng] using h4, clearAndSettle_due s,
    hm.keeps (I := fun u => u.sift.state = .idle) (fun hm => hm.sift_idle id) h5⟩

/-- R125, R133: entry to STOPPED. -/
theorem enterStopped_loop (hr : s.rstHigh = true) (hp : s.phase = .quiet) (ht : s.txn = none) (he : EngineResting s)
    (hs : s.sift.state = .idle) : LoopAgrees (enterStopped s) := by
  have hm := clearAndSettle_moves (run := False)
    { s with loop := .stopped, drainTarget := none, roundTimer := false, domTimer := false }
  have hc := hm.control
  simp only [Machine.control, Prod.mk.injEq] at hc
  obtain ⟨hrst, hline, -, -, -, hloop, -, hphase, htimer⟩ := hc
  have callsOver : CallsOver { s with loop := .stopped, drainTarget := none, roundTimer := false, domTimer := false } :=
    ⟨rfl, rfl, ht, he, hs⟩
  refine loopAgrees_inactive (hrst.trans hr) ?_ callsOver.clearAndSettle ?_ ?_
  · rw [LoopActive, enterStopped, hloop]
    simp
  · rw [enterStopped, hloop, hphase, hp]
    rfl
  · rw [lineWatched, enterStopped, hloop, htimer]
    simp

/-- R44, R124: entry to RUNNING, the line quiet and a level, if any, already measured. -/
theorem enterRunning_loop (hr : s.rstHigh = true) (ho : RoundsOver s) (hp : s.phase = .quiet)
    (hd : s.domTimer = s.lineDominant) : LoopAgrees (enterRunning s) := by
  obtain ⟨-, h2, h3, h4, -, -⟩ := ho
  have hm := roundStep_moves (run := True) trivial { s with loop := .running, roundTimer := true }
  refine ⟨(congrArg (fun c => c.1) hm.control).trans hr, hm.loopConsistent (fun _ => rfl) ?_⟩
  exact (loopConsistent_running rfl).2 ⟨rfl, h2, iff_of_true h4 h3, hp, hd, hr⟩

/-- R130: entry to RESETTING. -/
theorem enterResetting_loop (hr : s.rstHigh = true) (ht : s.txn = none) (he : EngineResting s)
    (hs : s.sift.state = .idle) : LoopAgrees (enterResetting s) := by
  have emptied : ∀ u : State, (resetDue u).due = [] := fun u =>
    (settleDismissals_moves (run := False) { u with due := [], recallCountdown := u.params.recallInterval }).keeps
      (I := fun v => v.due = []) (fun hm => hm.due_nil id) rfl
  let u : State := { s with
    loop := .resetting, drainTarget := none, phase := .resetDrive, domTimer := false, roundTimer := false }
  have hreset := resetDue_moves (run := False) u
  have hdrop : Moves False (resetDue u) (enterResetting s) :=
    (noteRemoved_moves _ _ _).trans ((dropAllPipes_moves _).trans (.of .nodesCleared))
  have hc := hreset.control
  simp only [Machine.control, Prod.mk.injEq] at hc
  obtain ⟨hrst, hline, hround, heng, htxn, hloop, htarget, hphase, htimer⟩ := hc
  refine hdrop.loopAgrees (loopAgrees_inactive (hrst.trans hr) ?_ ⟨hround, htarget, htxn.trans ht, ?_, emptied u, ?_⟩ ?_ ?_)
  · rw [LoopActive, hloop]
    simp [u]
  · simpa [EngineResting, heng] using he
  · exact hreset.keeps (I := fun v => v.sift.state = .idle) (fun hm => hm.sift_idle id) hs
  · rw [hloop, hphase]
    rfl
  · rw [lineWatched, hloop, htimer, hphase]
    simp [u]

/-! ## Drains -/

/-- R105, R129: with no transaction in flight a drain has no sift. -/
theorem LoopAgrees.sift_idle (h : LoopAgrees s) (hl : s.loop = .draining) (ht : s.txn = none) : s.sift.state = .idle := by
  obtain ⟨-, -, -, hs, -⟩ := (loopConsistent_draining hl).1 h.2
  by_contra hi
  simpa [siftCallInFlight, ht] using hs (siftActive_iff.2 hi)

/-- R117, R125: the loop leaves RUNNING for DRAINING. -/
theorem beginDrain_loop (target : DrainTarget) (h : LoopAgrees s) (hl : s.loop = .running) :
    LoopAgrees (beginDrain target s) ∧ (beginDrain target s).loop = .draining ∧ (beginDrain target s).txn = s.txn ∧
      (beginDrain target s).phase = .quiet := by
  obtain ⟨hr, hs⟩ := h
  obtain ⟨-, -, heng, hphase, hdom, -⟩ := (loopConsistent_running hl).1 hs
  let u : State := { s with loop := .draining, drainTarget := some target, roundTimer := false }
  have agree : ∀ v, Moves False u v → (siftActive v = true → siftCallInFlight v = true) →
      LoopAgrees v ∧ v.loop = .draining ∧ v.txn = s.txn ∧ v.phase = .quiet := by
    intro v hm hsift
    have hc := hm.control
    simp only [Machine.control, Prod.mk.injEq] at hc
    obtain ⟨hrst, hline, hround, heng', htxn, hloop, htarget, hphase', htimer⟩ := hc
    refine ⟨⟨hrst.trans hr, (loopConsistent_draining hloop).2 ⟨hround, by rw [htarget]; simp [u], ?_, hsift,
      .inl (hphase'.trans hphase), (htimer.trans hdom).trans hline.symm, hrst.trans hr⟩⟩, hloop, htxn, hphase'.trans hphase⟩
    simpa only [EngineResting, heng', htxn] using heng
  by_cases hc : siftCallInFlight u = true
  · have : beginDrain target s = u := if_pos hc
    rw [this]
    exact agree u (.none u) fun _ => hc
  · have : beginDrain target s = cancelSift u := if_neg hc
    rw [this]
    exact agree _ (cancelSift_moves u) fun ha => absurd (cancelSift_idle u) (siftActive_iff.1 ha)

/-- R126, R131: the REST broadcast begins. -/
theorem sendRest_loop (h : LoopAgrees s) (hl : s.loop = .draining) (ht : s.txn = none) (he : s.engine = .idle)
    (hd : s.drainTarget = some .resting) : LoopAgrees (sendRest s) := by
  have hs := h.sift_idle hl ht
  obtain ⟨hr, hcons⟩ := h
  obtain ⟨hround, -, -, -, -, hdom, -⟩ := (loopConsistent_draining hl).1 hcons
  have hm := clearAndSettle_moves (run := False) { s with phase := .restFrame, loopTx := some restFrame }
  have hc := hm.control
  simp only [Machine.control, Prod.mk.injEq] at hc
  obtain ⟨hrst, hline, hround', heng', htxn, hloop, htarget, hphase', htimer⟩ := hc
  refine ⟨hrst.trans hr, (loopConsistent_draining (hloop.trans hl)).2 ⟨hround'.trans hround, ?_, ?_, fun ha => ?_,
    .inr ⟨hphase', htarget.trans hd, heng'.trans he, clearAndSettle_due _⟩, htimer.trans (hdom.trans hline.symm), hrst.trans hr⟩⟩
  · rw [htarget.trans hd]
    nofun
  · exact iff_of_true (.inl (heng'.trans he)) (htxn.trans ht)
  · exact absurd (hm.keeps (I := fun u => u.sift.state = .idle) (fun hm => hm.sift_idle id) hs) (siftActive_iff.1 ha)

/-- R129: the end of a drain. -/
theorem drainEnded_loop (h : LoopAgrees s) : LoopAgrees (drainEnded s) := by
  unfold drainEnded
  split
  · next hd =>
    obtain ⟨hl, ht, hp⟩ := hd
    have hs := h.sift_idle hl ht
    obtain ⟨-, -, heng, -⟩ := (loopConsistent_draining hl).1 h.2
    unfold reachTarget
    split
    · exact (answerSlot_moves _ _).loopAgrees (enterStopped_loop h.1 hp ht (heng.2 ht) hs)
    · next htarget =>
      split
      · next he => exact sendRest_loop h hl ht he htarget
      · exact h
    · split
      · exact enterResetting_loop h.1 ht (heng.2 ht) hs
      · exact h
    · exact h
  · exact h

/-! ## The line reset, rest and wake -/

theorem not_loopActive (hr : s.loop ≠ .running) (hd : s.loop ≠ .draining) : ¬LoopActive s := not_or.2 ⟨hr, hd⟩

/-- R124, R130: the settle ends with the line recessive. -/
theorem endSettle_loop (h : LoopAgrees s) (hl : s.loop = .resetting) (hd : s.lineDominant = false) :
    LoopAgrees (endSettle s) := by
  have hna : ¬LoopActive s := not_loopActive (by rw [hl]; nofun) (by rw [hl]; nofun)
  have ho := h.over hna
  obtain ⟨-, -, htimer, -⟩ := (loopConsistent_inactive hna).1 h.2
  have hoff : s.domTimer = false := by rw [htimer, hd, Bool.false_and]
  unfold endSettle
  dsimp only
  refine (answerSlot_moves _ _).loopAgrees ?_
  split
  · exact enterRunning_loop (s := { s with phase := .quiet }) h.1 ho rfl (hoff.trans hd.symm)
  · exact loopAgrees_inactive h.1 (by simp [LoopActive]) ho rfl (by simp [lineWatched])

/-- R130: the drive ends; the settle under a dominant level. -/
theorem resetPhase_loop {phase : LinePhase} {timer : Bool} (h : LoopAgrees s) (hl : s.loop = .resetting)
    (hp : phase = .resetSettle ∨ phase = .settleExtended) (ht : timer = s.lineDominant) :
    LoopAgrees { s with phase := phase, domTimer := timer } := by
  have ho := h.over (not_loopActive (by rw [hl]; nofun) (by rw [hl]; nofun))
  refine loopAgrees_inactive h.1 (by simp [LoopActive, hl]) ho ?_ ?_
  · rcases hp with rfl | rfl <;> simp [hl, phaseFits]
  · rcases hp with rfl | rfl <;> simp [hl, lineWatched, ht]

/-- What the Line Controller does with the line tells the loop state. -/
theorem LoopAgrees.loop_of_phase (h : LoopAgrees s) :
    (s.phase = .restFrame → s.loop = .draining) ∧
    (s.phase = .resetDrive ∨ s.phase = .resetSettle ∨ s.phase = .settleExtended → s.loop = .resetting) ∧
    (s.phase = .wakeWait ∨ s.phase = .wakeFrame ∨ s.phase = .wakeSettle → s.loop = .waking) := by
  obtain ⟨-, -, -, -, -, -, -, h7, -⟩ := h
  refine ⟨fun hp => ?_, fun hp => ?_, fun hp => ?_⟩
  · rw [hp] at h7
    cases hl : s.loop <;> simp_all [phaseFits]
  · rcases hp with hp | hp | hp <;> rw [hp] at h7 <;> cases hl : s.loop <;> simp_all [phaseFits]
  · rcases hp with hp | hp | hp <;> rw [hp] at h7 <;> cases hl : s.loop <;> simp_all [phaseFits]

theorem driveEnded_loop (h : LoopAgrees s) : LoopAgrees (driveEnded s) := by
  unfold driveEnded
  split
  · next hp => exact resetPhase_loop h (h.loop_of_phase.2.1 (.inl hp)) (.inl rfl) rfl
  · exact h

theorem settleExpired_loop (h : LoopAgrees s) : LoopAgrees (settleExpired s) := by
  unfold settleExpired
  split
  · next hp =>
    have hl := h.loop_of_phase.2.1 (.inr (.inl hp))
    obtain ⟨-, -, htimer, -⟩ := (loopConsistent_inactive (not_loopActive (by rw [hl]; nofun) (by rw [hl]; nofun))).1 h.2
    split
    · refine resetPhase_loop (timer := s.domTimer) h hl (.inr rfl) ?_
      simpa [lineWatched, hl, hp] using htimer
    · next hd => exact endSettle_loop h hl (Bool.eq_false_iff.2 hd)
  · exact h

/-- R131: the REST frame has ended. -/
theorem restEnded_loop (h : LoopAgrees s) : LoopAgrees (restEnded s) := by
  unfold restEnded
  split
  · next hp =>
    have hl := h.loop_of_phase.1 hp
    obtain ⟨hround, -, heng, -, hrest, -⟩ := (loopConsistent_draining hl).1 h.2
    obtain ⟨-, -, he, hdue⟩ := hrest.resolve_left (by rw [hp]; nofun)
    have ht := heng.1 (.inl he)
    refine (answerSlot_moves _ _).loopAgrees ?_
    refine loopAgrees_inactive h.1 (by simp [LoopActive]) ⟨hround, rfl, ht, .inl he, hdue, h.sift_idle hl ht⟩ rfl ?_
    simp [lineWatched]
  · exact h

/-- R132: a state of WAKING. -/
theorem waking_loop {phase : LinePhase} {frame : Option LoopFrame} (h : LoopAgrees s) (hl : s.loop = .waking ∨ s.loop = .resting)
    (hp : phase = .wakeWait ∨ phase = .wakeFrame ∨ phase = .wakeSettle) :
    LoopAgrees { s with loop := .waking, phase := phase, loopTx := frame } := by
  have hna : ¬LoopActive s := by rcases hl with hl | hl <;> simp [LoopActive, hl]
  obtain ⟨ho, -, htimer, -⟩ := (loopConsistent_inactive hna).1 h.2
  refine loopAgrees_inactive h.1 (by simp [LoopActive]) ho ?_ ?_
  · rcases hp with rfl | rfl | rfl <;> rfl
  · rcases hl with hl | hl <;> simpa [lineWatched, hl] using htimer

theorem wakeEnded_loop (h : LoopAgrees s) : LoopAgrees (wakeEnded s) := by
  unfold wakeEnded
  split
  · next hp =>
    have hl := h.loop_of_phase.2.2 (.inr (.inl hp))
    have := waking_loop (phase := .wakeSettle) (frame := none) h (.inl hl) (.inr (.inr rfl))
    rwa [← hl] at this
  · exact h

theorem wakeSettled_loop (h : LoopAgrees s) : LoopAgrees (wakeSettled s) := by
  unfold wakeSettled
  split
  · next hp =>
    have hl := h.loop_of_phase.2.2 (.inr (.inr hp))
    have hna : ¬LoopActive s := not_loopActive (by rw [hl]; nofun) (by rw [hl]; nofun)
    obtain ⟨ho, -, htimer, -⟩ := (loopConsistent_inactive hna).1 h.2
    refine (answerSlot_moves _ _).loopAgrees (enterRunning_loop (s := { s with phase := .quiet }) h.1 ho rfl ?_)
    simpa [lineWatched, hl] using htimer
  · exact h

/-! ## The line -/

theorem lineWentDominant_loop (h : LoopAgrees s) : LoopAgrees (lineWentDominant s) := by
  unfold lineWentDominant
  split
  · exact h
  · have level : LoopAgrees { s with lineDominant := true, domTimer := lineWatched s } := by
      obtain ⟨hr, h1, h2, h3, h4, h5, h6, h7, h8, -, h10⟩ := h
      exact ⟨hr, h1, h2, h3, h4, h5, h6, h7, h8, rfl, h10⟩
    have noted : Acts (({ s with lineDominant := true, domTimer := lineWatched s } : State).loop = .running) False
        { s with lineDominant := true, domTimer := lineWatched s }
        (noteActivity { s with lineDominant := true, domTimer := lineWatched s }) :=
      ite_acts (fun _ => updTxn_acts _ (fun _ => rfl) fun _ => rfl) fun _ => .none _
    exact noted.loopAgrees level

theorem lineWentRecessive_loop (lasted : Nat) (h : LoopAgrees s) : LoopAgrees (lineWentRecessive lasted s) := by
  unfold lineWentRecessive
  split
  · have level : LoopAgrees { s with lineDominant := false, domTimer := false } := by
      obtain ⟨hr, h1, h2, h3, h4, h5, h6, h7, h8, -, h10⟩ := h
      exact ⟨hr, h1, h2, h3, h4, h5, h6, h7, h8, (Bool.false_and _).symm, h10⟩
    unfold levelEnded
    split
    · next hl =>
      split
      · have seen := (notify_moves .wakeSeen _).loopAgrees level
        unfold wakePulse
        dsimp only
        split
        · exact waking_loop seen (.inr (by simpa using hl)) (.inr (.inl rfl))
        · exact seen
      · exact level
    · next hl =>
      split
      · exact waking_loop level (.inl hl) (.inr (.inl rfl))
      · exact level
    · next hl =>
      split
      · exact endSettle_loop level hl rfl
      · exact level
    all_goals exact level
  · exact h

/-- R79, R134: a line fault leaves nothing of the rounds. -/
theorem takeLineFault_loop (h : LoopAgrees s) : LoopAgrees (takeLineFault s) := by
  unfold takeLineFault
  split
  · have abandoned : ∃ u, u.rstHigh = s.rstHigh ∧ u.engine = .idle ∧ u.txn = none ∧ Moves True u (abandonTxn s) := by
      refine ⟨{ s with engine := .idle, txn := none, loopTx := none }, rfl, rfl, rfl, ?_⟩
      unfold abandonTxn
      split
      · exact (ite_moves (fun _ => storeCutOff_moves _ _) fun _ => .none _).trans (reportEnd_moves trivial _ _ _)
      · exact .none _
    obtain ⟨u, hr, he, ht, hu⟩ := abandoned
    have settledAll := clearAndSettle_moves (run := True) (abandonTxn s)
    have cancelled := cancelSift_moves (run := False) (clearAndSettle (abandonTxn s))
    have hc := (cancelled.control.trans settledAll.control).trans hu.control
    simp only [Machine.control, Prod.mk.injEq] at hc
    obtain ⟨hrst, -, -, heng, htxn, -, -, -, -⟩ := hc
    have emptied : (cancelSift (clearAndSettle (abandonTxn s))).due = [] :=
      cancelled.keeps (I := fun v => v.due = []) (fun hm => hm.due_nil id) (clearAndSettle_due _)
    refine ((answerSlot_moves _ _).trans (reportFault_moves _ _)).loopAgrees ?_
    exact loopAgrees_inactive (hrst.trans (hr.trans h.1)) (by simp [LoopActive, stopForFault])
      ⟨rfl, rfl, htxn.trans ht, .inl (heng.trans he), emptied, cancelSift_idle _⟩ rfl (by simp [stopForFault, lineWatched])
  · exact h

/-! ## Requests -/

/-- R123 to R128: the loop-state requests. -/
theorem loopStateAct_loop {kind tag : Byte} (h : LoopAgrees s) (hx : Executing kind tag s) (ha : LoopStateAct tag s t) :
    LoopAgrees t := by
  have answered : ∀ code reply, LoopAgrees (answer tag code reply s) := fun _ _ =>
    (answer_moves hx.unanswered _ _).loopAgrees h
  have slot : ∀ r, Moves False s (enterSlot tag r s) := fun r => enterSlot_moves hx.unanswered r
  have resumed : ∀ r b, Moves False s (enterSlot tag r { s with resume := b }) := fun r b =>
    (enterSlot_moves (s := { s with resume := b }) hx.unanswered r).afterRest rfl
  have resets : ∀ {u}, Moves False s u → ¬LoopActive s → LoopAgrees (enterResetting u) := fun hm hna => by
    obtain ⟨-, -, ht, he, -, hs⟩ := (h.over hna).moves hm
    exact enterResetting_loop ((hm.loopAgrees h).1) ht he hs
  have drains : ∀ {u} target, Moves False s u → s.loop = .running → LoopAgrees (beginDrain target u) := fun target hm hl =>
    (beginDrain_loop target (hm.loopAgrees h) (hm.loop_eq.trans hl)).1
  cases ha with
  | start =>
    unfold requestStartLoop
    split
    case h_1 hl => exact resets (resumed _ _) (by simp [LoopActive, hl])
    case h_2 hl =>
      split
      · exact answered _ _
      · next hd =>
        have hna : ¬LoopActive s := by simp [LoopActive, hl]
        have hlow : s.lineDominant = false := Bool.eq_false_iff.2 hd
        obtain ⟨ho, hp, htimer, -⟩ := (loopConsistent_inactive hna).1 h.2
        have hquiet : s.phase = .quiet := by simpa [phaseFits, hl] using hp
        have entered := enterRunning_loop h.1 ho hquiet (by rw [htimer, hlow, Bool.false_and])
        have hw : (enterRunning s).window = s.window := roundStep_window _
        exact (answer_moves (hx.of_window hw).unanswered _ _).loopAgrees entered
    all_goals exact answered _ _
  | stop =>
    unfold requestStopLoop
    split
    case h_3 hl =>
      split
      · next ht =>
        obtain ⟨hd, hdl, hdt, hdp⟩ := beginDrain_loop .stopped h hl
        have hnone := hdt.trans ht
        obtain ⟨-, -, heng, -⟩ := (loopConsistent_draining hdl).1 hd.2
        have entered := enterStopped_loop hd.1 hdp hnone (heng.2 hnone) (hd.sift_idle hdl hnone)
        have hx' : Executing kind tag (enterStopped (beginDrain .stopped s)) := hx.beginDrain.enterStopped
        exact (answer_moves hx'.unanswered _ _).loopAgrees entered
      · exact drains _ (slot _) hl
    all_goals exact answered _ _
  | rest =>
    unfold requestRestLoop
    split
    case h_3 hl => exact drainEnded_loop (drains _ (slot _) hl)
    all_goals exact answered _ _
  | wake =>
    unfold requestWakeLoop
    split
    case h_4 hl =>
      have hw := (slot .wake).loopAgrees h
      have hl' : (enterSlot tag .wake s).loop = .resting := hl
      unfold enterWaking
      split
      · exact waking_loop (frame := (enterSlot tag .wake s).loopTx) hw (.inr hl') (.inl rfl)
      · exact waking_loop hw (.inr hl') (.inr (.inl rfl))
    all_goals exact answered _ _
  | reset =>
    unfold requestLineReset
    split
    case h_1 hl => exact resets (resumed _ _) (by simp [LoopActive, hl])
    case h_2 hl => exact resets (resumed _ _) (by simp [LoopActive, hl])
    case h_3 hl => exact resets (resumed _ _) (by simp [LoopActive, hl])
    case h_4 hl => exact drainEnded_loop (drains _ (resumed _ _) hl)
    all_goals exact answered _ _

/-! ## Events and steps -/

/-- R120, R152: the power-up state. -/
theorem blankPart_loop (s : State) (high : Bool) : LoopConsistent { blankPart s with rstHigh := high } :=
  (loopConsistent_inactive (by simp [LoopActive, blankPart])).2
    ⟨⟨rfl, rfl, rfl, .inl rfl, rfl, rfl⟩, rfl, by simp [blankPart, lineWatched], fun _ => rfl⟩

theorem frameEnded_loop (h : LoopAgrees s) : LoopAgrees (frameEnded s) := by
  have moved : ∀ {u}, Moves False s u → LoopAgrees u := fun hm => hm.loopAgrees h
  unfold frameEnded
  split
  · split
    · exact moved (.rest rfl)
    · unfold replyEnded
      split
      · split
        · exact (notify_moves _ _).loopAgrees ⟨h.1, blankPart_loop _ _⟩
        · next q qs _ _ =>
          have gone : Moves False s { s with window := s.window.eraseP fun w => w.tag == q.reply.tag } :=
            .of (.requestOver q.reply.tag)
          exact moved (gone.trans (.rest rfl))
      · exact moved (.rest rfl)
    · exact moved (.rest rfl)
  · exact h

theorem Event.loopAgrees (he : Event s t) (h : LoopAgrees s) : LoopAgrees t := by
  have moved : ∀ {u}, Moves False s u → LoopAgrees u := fun hm => hm.loopAgrees h
  have within : ∀ {u}, Acts (s.loop = .running) False s u → LoopAgrees u := fun ha => ha.loopAgrees h
  cases he with
  | port hb => exact moved (.rest hb)
  | rejected => exact moved (countRejected_moves s)
  | admits kind tag crc fields =>
    rcases admitRequest_cases (run := s.loop = .running) id kind tag crc fields with hm | ⟨u, hu, hx, ha⟩
    · exact within (.moves hm)
    · exact loopStateAct_loop (within (.moves hu)) hx ha
  | chooses => exact moved (kickTx_moves s)
  | frameEnds => exact frameEnded_loop h
  | resends => exact moved (resendExpired_moves s)
  | round hr =>
    obtain ⟨h1, -⟩ := h.2
    exact within (.moves (roundStep_moves (h1.1 hr) s))
  | serves => exact within (serveHead_acts id)
  | callEnds => exact within (callEnded_acts s)
  | windowEnds => exact within (windowExpired_acts s)
  | fallsQuiet rx => exact within (quietAfter_acts rx s)
  | limitEnds => exact within (garbleLimit_acts s)
  | hears rx => exact within (hearFrame_acts rx s)
  | confirmEnds => exact within (confirmEnded_acts s)
  | turnaroundEnds => exact within (turnaroundEnded_acts s)
  | drainEnds => exact drainEnded_loop h
  | driveEnds => exact driveEnded_loop h
  | settleEnds => exact settleExpired_loop h
  | restEnds => exact restEnded_loop h
  | wakeEnds => exact wakeEnded_loop h
  | wakeSettles => exact wakeSettled_loop h
  | dominant => exact lineWentDominant_loop h
  | recessive lasted => exact lineWentRecessive_loop lasted h
  | fault => exact takeLineFault_loop h

/-- Settles O57: acts within a loop state and each change of it, with the part out of reset; a start and the level of the
line while the part is held. -/
theorem stepKeepsTheLoopConsistent : Obligations.StepKeepsTheLoopConsistent := by
  intro s t hs h
  obtain ⟨u, hu, he⟩ := step_effect h
  have hcons : LoopConsistent u := (Moves.rest (run := False) hu).loopConsistent False.elim hs
  cases he with
  | events hr he => exact (he.keeps Event.loopAgrees ⟨hr, hcons⟩).2
  | starts high hm => exact (hm False).loopConsistent False.elim (blankPart_loop u high)
  | held hr level =>
    obtain ⟨h1, h2, h3, h4, h5, h6, h7, h8, h9, h10⟩ := hcons
    have hoff := h10 hr
    refine ⟨h1, h2, h3, h4, h5, h6, h7, h8, ?_, h10⟩
    simpa [lineWatched, hoff] using h9

end Sys2Proof.Machine
end

section
/-! Power, the reset pin and the queue of commands (R136, R152), the notice list and the transmitter (R146, R155 to R161),
and the engine's own timers (R62, R64). -/

set_option Elab.async false

namespace Sys2Proof.Machine

/-! ## Commands in and out of reset -/

/-- R152: out of reset a command acts, and the transmitter then chooses. -/
theorem live_high {f : State → State} {s : State} (h : s.rstHigh = true) : live f s = .next (kickTx (f s)) := if_pos h

/-- R152: while RSTn is low it does not act. -/
theorem live_low {f : State → State} {s : State} (h : s.rstHigh = false) : live f s = .next s :=
  if_neg (Bool.eq_false_iff.1 h)

/-- Settles O1: by the definition of a step. -/
theorem stepRunsTheFrontCommand : Obligations.StepRunsTheFrontCommand :=
  ⟨fun _ _ _ h => by rw [step, h], fun _ h => by rw [step, h]⟩

/-- Settles O2: the pool is `freshPool`, and READY's frame has its check. -/
theorem resetLeavesEveryBlockAtItsStart : Obligations.ResetLeavesEveryBlockAtItsStart := by
  refine ⟨freshPool_index, fun b hb => ?_, rfl, rfl, rfl, rfl, rfl, rfl, rfl, rfl, rfl, rfl, rfl, rfl, rfl, rfl, rfl, rfl,
    rfl, rfl, rfl, rfl, rfl, rfl, rfl, rfl, rfl, rfl, rfl, by decide +kernel⟩
  obtain ⟨i, -, rfl⟩ := List.mem_map.1 hb
  exact ⟨rfl, rfl⟩

/-- R152, R165: a started part, its transmitter sending READY. -/
theorem kickTx_startPart (cause : ReadyCause) (s : State) (cold : Bool) :
    kickTx { startPart cause s with cold := cold } = { State.reset with
      pending := s.pending, draws := s.draws, rstHigh := s.rstHigh, cold := cold, rate1 := s.rate1, rate0 := s.rate0,
      hostRate := s.hostRate, lineDominant := s.lineDominant, notices := [⟨1, .ready cause, false, false⟩],
      tx := some ⟨.notice 1, hostFrame [0x41, 0x01, 0x00, 0x00, codeOfReadyCause cause]⟩ } := by
  have ready : startPart cause s = { blankPart s with notices := [⟨1, .ready cause, true, false⟩], nextNumber := 2 } := rfl
  have bytes : encodeNotice ⟨1, .ready cause, true, false⟩ = [0x41, 0x01, 0x00, 0x00, codeOfReadyCause cause] := by
    cases cause <;> decide
  rw [ready, ← bytes]
  rfl

/-- R172: READY's frame after power. -/
theorem readyFrame_power : hostFrame [0x41, 0x01, 0x00, 0x00, 0x01] =
    [0xE7#8, 0x05#8, 0x41#8, 0x01#8, 0x00#8, 0x00#8, 0x01#8, 0x7B#8, 0x12#8] := by decide +kernel

/-- R136, R152: what the part is as it leaves reset. -/
theorem leaveReset_eq (s : State) : leaveReset s = { State.reset with
    pending := s.pending, draws := s.draws, rstHigh := s.rstHigh, rate1 := s.rate1, rate0 := s.rate0,
    hostRate := rateOf s.rate1 s.rate0, lineDominant := s.lineDominant,
    notices := [⟨1, .ready (if s.cold then .power else .pin), false, false⟩],
    tx := some ⟨.notice 1, hostFrame [0x41, 0x01, 0x00, 0x00, if s.cold then 0x01 else 0x02]⟩ } := by
  rw [leaveReset, kickTx_startPart]
  cases hc : s.cold <;> rfl

/-- Settles O3: what `leaveReset` leaves, and the power-up state in which the part is held. -/
theorem powerAndTheResetPinStartThePart : Obligations.PowerAndTheResetPinStartThePart := by
  refine ⟨fun rate1 rate0 s => ⟨fun h => ?power, fun h => ?powerHeld⟩,
    fun rate1 rate0 s => ⟨rfl, fun h => ?release, fun h => ?released⟩⟩
  case power =>
    have hu : (readStraps (setStraps rate1 rate0 { blankPart s with cold := true })).rstHigh = true := h
    have powered : exec (.powerUp rate1 rate0) s = .next { State.reset with
        pending := s.pending, draws := s.draws, rate1 := rate1, rate0 := rate0, lineDominant := s.lineDominant,
        hostRate := rateOf rate1 rate0 } := by
      simp only [exec, execPowerUp, hu, if_true, leaveReset_eq]
      simp only [readStraps, setStraps, blankPart, h, if_true, readyFrame_power, State.reset]
    cases rate1 <;> cases rate0 <;> exact powered
  case powerHeld =>
    have hu : (readStraps (setStraps rate1 rate0 { blankPart s with cold := true })).rstHigh = false := h
    simp only [exec, execPowerUp, hu]
    simp only [readStraps, setStraps, blankPart, h, State.reset, Bool.false_eq_true, if_false]
  case release =>
    simp only [exec, execResetPinRelease, h, Bool.false_eq_true, if_false, leaveReset_eq]
    rfl
  case released => simp only [exec, execResetPinRelease, h, if_true]

/-- Settles O4: every other command is one that acts out of reset alone. -/
theorem heldInResetNothingActs : Obligations.HeldInResetNothingActs := by
  intro c s h
  refine ⟨?_, fun lasted => ?_, fun hpower hassert hrelease hdominant hrecessive => ?_⟩
  · rw [exec, execLineDominant, if_neg (Bool.eq_false_iff.1 h)]
  · rw [exec, execLineRecessive, if_neg (Bool.eq_false_iff.1 h)]
  · cases c
    case powerUp r1 r0 => exact absurd rfl (hpower r1 r0)
    case resetPinAssert => exact absurd rfl hassert
    case resetPinRelease r1 r0 => exact absurd rfl (hrelease r1 r0)
    case lineDominant => exact absurd rfl hdominant
    case lineRecessive lasted => exact absurd rfl (hrecessive lasted)
    case hostInterbyteTimeout bytes => exact live_low (f := fun s => interByteTimeout (receive bytes s)) h
    all_goals exact live_low h

/-- Settles O52: the power-up pool, empty tables, and one notice with number 1. -/
theorem resetPartIsConsistent : Obligations.ResetPartIsConsistent := by
  refine ⟨⟨?_, fun _ => rfl, fun h => absurd rfl h, nofun, nofun⟩, by decide, by decide, List.nodup_nil, by decide,
    by decide, by decide, by decide⟩
  simp [placedBlocks, State.reset, freshPool_index]

/-! ## Notices and the transmitter -/

/-- Settles O27: by the room in the list. -/
theorem noticeIsStoredOrMissed : Obligations.NoticeIsStoredOrMissed := by
  refine fun body s => ⟨fun h => ?_, fun h => ?_⟩
  · exact if_pos (decide_eq_true h)
  · exact if_neg (by simpa [noticeFits] using h)

/-- R8: a reply that is not a COLLECT's carries no blocks. -/
theorem replyBlocks_eq_nil {r : Reply} (s : State)
    (h : ∀ handle outcome count remaining, r.fields ≠ .collect handle outcome count remaining) : replyBlocks r s = [] := by
  unfold replyBlocks
  split
  · next hf => exact absurd hf (h _ _ _ _)
  all_goals rfl

/-- Settles O28: the cases of the choice in order. -/
theorem transmitterChoosesInOrder : Obligations.TransmitterChoosesInOrder := by
  refine fun s => ⟨fun f ht => ?busy, fun r ht hr => ?refusal, fun q later ht hr hq hf => ?reply,
    fun q later e handle outcome count remaining ht hr hq hf he => ?collect,
    fun older newer n ht hr hq hn ho hu => ?notice, fun ht hr hq hn => ?idle⟩
  case busy => rw [kickTx, ht]
  case refusal => simp only [kickTx, ht, chooseFrame, hr]
  case reply => simp only [kickTx, ht, chooseFrame, hr, hq, replyBlocks_eq_nil s hf]
  case collect => simp only [kickTx, ht, chooseFrame, hr, hq, replyBlocks, hf, he, Option.map_some, Option.getD_some]
  case notice =>
    have hfirst : nextUnsent s = some n := by rw [nextUnsent, hn]; exact find_append ho hu
    simp only [kickTx, ht, chooseFrame, hr, hq, hfirst]
    rw [hn, updFirst_append ho hu]
  case idle =>
    have hnone : nextUnsent s = none := List.find?_eq_none.2 fun m hm => Bool.eq_false_iff.1 (hn m hm)
    simp only [kickTx, ht, chooseFrame, hr, hq, hnone]

/-- R161: the notice on HTX. -/
theorem beingSent_iff {n : Notice} {s : State} : beingSent n s = true ↔ s.tx.map (·.kind) = some (.notice n.number) := by
  unfold beingSent
  cases s.tx <;> simp

/-- Settles O29: the end of each kind of frame, and the resend timer. -/
theorem frameEndsAndTheResendTimer : Obligations.FrameEndsAndTheResendTimer := by
  refine ⟨fun bytes number q later s h => ⟨fun ht => ?refusal, fun ht hq hr => ?reply, fun ht => ?notice⟩,
    fun s h => ⟨fun hr => ?expires, fun hr => ?stopped⟩⟩
  case refusal => rw [exec, execHostFrameSent, live_high h, frameEnded, ht]
  case reply =>
    rw [exec, execHostFrameSent, live_high h, frameEnded, ht]
    simp only [replyEnded, hq, hr, Bool.false_eq_true, if_false]
  case notice => rw [exec, execHostFrameSent, live_high h, frameEnded, ht]
  case expires =>
    rw [exec, execResendTimerExpiry, live_high h, resendExpired, if_pos hr]
    congr 3
    refine List.map_congr_left fun n _ => ?_
    rw [markResend]
    simp only [beingSent_iff]
  case stopped => rw [exec, execResendTimerExpiry, live_high h, resendExpired, if_neg (Bool.eq_false_iff.1 hr)]

/-- Settles O33: the end of the call and of the turnaround. -/
theorem callEndOpensTheWindow : Obligations.CallEndOpensTheWindow := by
  refine fun t s h => ⟨fun he ht => ?_, fun he => ?_⟩
  · rw [exec, execCallSent, live_high h, callEnded, if_pos he]
    simp only [updTxn, ht, Option.map_some]
  · rw [exec, execTurnaroundEnd, live_high h, turnaroundEnded, if_pos he]

end Sys2Proof.Machine
end

section
/-! The frame receiver and admission (R137 to R145), and the Request Handler's own answers (R142, R147, R148, R150). -/

set_option Elab.async false

namespace Sys2Proof.Machine

/-! ## The frame receiver -/

/-- R137: the receiver behind the LEN of a frame. -/
def midRx (stored : List Byte) : Receiver :=
  ⟨if stored.length < 2 + storedLen stored then .body else .crc, stored, true⟩

/-- R138: the fuel of a reception is enough for its bytes and one of them again. -/
theorem rxFuel_eq (bytes : List Byte) (s : State) : ∃ n, rxFuel bytes s = n + (bytes.length + 1) := by
  refine ⟨rxFuel bytes s - (bytes.length + 1), (Nat.sub_add_cancel ?_).symm⟩
  unfold rxFuel
  nlinarith

/-- R137: in HUNT a byte that is not the SYNC is passed over. -/
theorem rxBytes_noSync {bytes : List Byte} {s : State} (n : Nat) (h : s.rx.state = .hunt) (hb : Config.sync ∉ bytes) :
    rxBytes n bytes s = s := by
  induction n generalizing bytes with
  | zero => rfl
  | succ n ih =>
    cases bytes with
    | nil => rfl
    | cons b bs =>
      obtain ⟨hne, hbs⟩ := not_or.1 (mt List.mem_cons.2 hb)
      have passed : rxByte b s = (s, []) := by simp [rxByte, h, Ne.symm hne]
      rw [rxBytes_cons, passed]
      exact ih hbs

/-- R137: a byte of a frame's body or check that does not end the frame. -/
theorem rxByte_mid {b : Byte} {stored : List Byte} {s : State} (h : s.rx = midRx stored) (h2 : 2 ≤ stored.length)
    (hl : stored.length + 1 < 4 + storedLen stored) :
    rxByte b s = ({ s with rx := midRx (stored ++ [b]) }, []) := by
  have hsl := storedLen_append stored [b] h2
  have hlen : (stored ++ [b]).length = stored.length + 1 := by simp
  by_cases hb : stored.length < 2 + storedLen stored
  · simp [rxByte, h, midRx, hb, hsl, storeByte]
  · have hb' : ¬stored.length + 1 < 2 + storedLen stored := by omega
    simp [rxByte, h, midRx, hb, hb', hsl, hl, storeByte]

/-- R137: bytes of a frame's body and check that do not end the frame. -/
theorem rxBytes_mid {rest tail stored : List Byte} {s : State} (n : Nat) (h : s.rx = midRx stored) (h2 : 2 ≤ stored.length)
    (hl : stored.length + rest.length < 4 + storedLen stored) :
    rxBytes (n + rest.length) (rest ++ tail) s = rxBytes n tail { s with rx := midRx (stored ++ rest) } := by
  induction rest generalizing stored s with
  | nil =>
    simp only [List.length_nil, Nat.add_zero, List.nil_append, List.append_nil, ← h]
  | cons b bs ih =>
    simp only [List.length_cons] at hl
    have hsl := storedLen_append stored [b] h2
    have hlen : (stored ++ [b]).length = stored.length + 1 := by simp
    rw [List.cons_append, List.length_cons, ← Nat.add_assoc, rxBytes_cons, rxByte_mid h h2 (by omega)]
    dsimp only
    rw [List.nil_append, ih (stored := stored ++ [b]) rfl (by omega) (by omega)]
    simp

/-- R137: the SYNC and a LEN from 2 to 224. -/
theorem rxBytes_header {len : Byte} {tail : List Byte} {s : State} (n : Nat) (h : s.rx.state = .hunt)
    (hlen : 2 ≤ len.toNat ∧ len.toNat ≤ 224) :
    rxBytes (n + 2) (Config.sync :: len :: tail) s = rxBytes n tail { s with rx := midRx [Config.sync, len] } := by
  have hb : midRx [Config.sync, len] = ⟨.body, [Config.sync, len], true⟩ := by
    have hl : storedLen [Config.sync, len] = len.toNat := rfl
    rw [midRx, hl, if_pos (by simp only [List.length_cons, List.length_nil]; omega)]
  rw [rxBytes_cons, rxByte_sync h, List.nil_append, rxBytes_cons, rxByte_len rfl hlen, List.nil_append, hb]
  rfl

/-- R137, R138: the SYNC and a LEN outside 2 to 224: the frame is discarded and the LEN taken again. -/
theorem rxBytes_badLen {len : Byte} {tail : List Byte} {s : State} (n : Nat) (h : s.rx.state = .hunt)
    (hlen : ¬(2 ≤ len.toNat ∧ len.toNat ≤ 224)) :
    rxBytes (n + 2) (Config.sync :: len :: tail) s = rxBytes n (len :: tail) (discardFrame s) := by
  have bad : rxByte len (storeByte .length [Config.sync] s) = (discardFrame s, [len]) := if_neg hlen
  rw [rxBytes_cons, rxByte_sync h, List.nil_append, rxBytes_cons, bad]
  rfl

/-- R138: a frame whose check is wrong is discarded, and its bytes behind the SYNC taken again. -/
theorem rxBytes_badCheck {len c0 c1 : Byte} {body : List Byte} {s : State} (n : Nat) (h : s.rx.state = .hunt)
    (hlen : 2 ≤ len.toNat ∧ len.toNat ≤ 224) (hbody : body.length = len.toNat)
    (hc : [c0, c1] ≠ bytesOfCheck (crcOf (len :: body))) :
    rxBytes (n + (body.length + 4)) (Config.sync :: len :: (body ++ [c0, c1])) s =
      rxBytes n (len :: (body ++ [c0, c1])) (discardFrame s) := by
  let stored := Config.sync :: len :: (body ++ [c0])
  have hsl : ∀ rest, storedLen (Config.sync :: len :: rest) = len.toNat := fun _ => rfl
  have taken : rxBytes (n + (body.length + 4)) (Config.sync :: len :: (body ++ [c0, c1])) s =
      rxBytes (n + 1) [c1] { s with rx := midRx stored } := by
    rw [show n + (body.length + 4) = (n + 1 + (body ++ [c0]).length) + 2 by simp; omega, rxBytes_header _ h hlen,
      show body ++ [c0, c1] = (body ++ [c0]) ++ [c1] by simp,
      rxBytes_mid (stored := [Config.sync, len]) (n + 1) rfl (by simp) (by simp [hsl]; omega)]
    rfl
  have whole : stored ++ [c1] = Config.sync :: len :: (body ++ [c0, c1]) := by simp [stored]
  have hstate : midRx stored = ⟨.crc, stored, true⟩ := by
    have : ¬stored.length < 2 + storedLen stored := by simp [stored, hsl]; omega
    rw [midRx, if_neg this]
  have differs : checkAgrees (stored ++ [c1]) = false := by
    have hb : storedBody (stored ++ [c1]) = body := by
      rw [whole, storedBody, hsl, ← hbody]
      simp
    have hd : (stored ++ [c1]).drop (2 + len.toNat) = [c0, c1] := by
      rw [whole, ← hbody, Nat.add_comm]
      simp
    have hk : storedCheck (stored ++ [c1]) = crcOf (len :: body) := by
      rw [storedCheck, hb, whole]
      rfl
    have hl : storedLen (stored ++ [c1]) = len.toNat := by rw [whole, hsl]
    rw [checkAgrees, hk, hl, hd]
    exact beq_eq_false_iff_ne.2 hc
  have last : rxByte c1 { s with rx := midRx stored } = (discardFrame s, len :: (body ++ [c0, c1])) := by
    have hend : ¬(stored ++ [c1]).length < 4 + storedLen (stored ++ [c1]) := by
      rw [whole]
      simp [hsl]
      omega
    simp only [rxByte, hstate, if_neg hend, finishFrame, differs]
    rw [whole]
    rfl
  rw [taken, rxBytes_cons, last, List.append_nil]

/-- R138: a discarded frame leaves the receiver in HUNT and raises the count. -/
theorem discardFrame_eq (s : State) : discardFrame s = { s with
    rx := ⟨.hunt, [], false⟩
    counters := { s.counters with framesRejected := min (s.counters.framesRejected + 1) 65535 } } := rfl

/-- R137: bytes without a SYNC are passed over. -/
theorem receive_noSync {bytes : List Byte} {s : State} (h : s.rx.state = .hunt) (hb : Config.sync ∉ bytes) :
    receive bytes s = s := rxBytes_noSync _ h hb

/-- R137, R138: 5 ms without a byte within a frame. -/
theorem interByteTimeout_inFrame {s : State} (h : s.rx.state ≠ .hunt) :
    interByteTimeout s = receive (s.rx.stored.drop 1) (discardFrame s) := by
  unfold interByteTimeout
  split
  · next hh => exact absurd hh h
  all_goals rfl

/-- R137: bytes that begin a frame and do not end it are all stored. -/
theorem receive_partFrame {bytes : List Byte} {s : State} (h : s.rx.state = .hunt)
    (hl : bytes.length < (bytes.headD 0).toNat + 3)
    (hr : bytes = [] ∨ 2 ≤ (bytes.headD 0).toNat ∧ (bytes.headD 0).toNat ≤ 224) :
    ∃ state, state ≠ .hunt ∧ receive (Config.sync :: bytes) s = { s with rx := ⟨state, Config.sync :: bytes, true⟩ } := by
  obtain ⟨n, hn⟩ := rxFuel_eq (Config.sync :: bytes) s
  rw [receive, hn]
  cases bytes with
  | nil =>
    refine ⟨.length, nofun, ?_⟩
    rw [List.length_singleton, rxBytes_cons, rxByte_sync h, List.nil_append, rxBytes_nil]
    rfl
  | cons len rest =>
    have hlen := hr.resolve_left (List.cons_ne_nil _ _)
    simp only [List.headD_cons, List.length_cons] at hl hlen
    have hsl : storedLen [Config.sync, len] = len.toNat := rfl
    refine ⟨(midRx (Config.sync :: len :: rest)).state, ?_, ?_⟩
    · unfold midRx
      dsimp only
      split <;> nofun
    · have stored := rxBytes_mid (rest := rest) (tail := []) (stored := [Config.sync, len])
        (s := { s with rx := midRx [Config.sync, len] }) (n + 1) rfl (by simp)
        (by simp only [List.length_cons, List.length_nil, hsl]; omega)
      rw [List.append_nil, rxBytes_nil] at stored
      rw [show n + ((Config.sync :: len :: rest).length + 1) = (n + 1 + rest.length) + 2 by
        simp only [List.length_cons]; omega, rxBytes_header _ h hlen, stored]
      rfl

/-- R138: the receiver's bytes arrive out of reset, and the transmitter then chooses. -/
theorem exec_hostFrameDiscard {bytes : List Byte} {s : State} (h : Listening s) :
    exec (.hostFrameDiscard bytes) s = .next (kickTx (receive bytes s)) := live_high h.1

/-- Settles O5: each bad frame leads to `discardFrame`, upon which its other bytes, without a SYNC, are passed over. -/
theorem badFramesAreDiscardedCountedAndRescanned : Obligations.BadFramesAreDiscardedCountedAndRescanned := by
  refine ⟨fun body tail bytes len s h => ⟨fun hb => ?noSync, fun hne hlen => ?badLen,
    fun h2 h224 htail hcheck hb => ?badCheck⟩, fun kind tag fields s h hf => ?stray,
    fun bytes s h hb => ⟨?timeoutIdle, fun hl hr => ?timeoutFrame⟩⟩
  case noSync => rw [exec_hostFrameDiscard h, receive_noSync h.2 hb]
  case badLen =>
    obtain ⟨n, hn⟩ := rxFuel_eq [Config.sync, len] s
    have hb : Config.sync ∉ [len] := by simpa using hne.symm
    rw [exec_hostFrameDiscard h, receive, hn, show n + ([Config.sync, len].length + 1) = (n + 1) + 2 from rfl,
      rxBytes_badLen _ h.2 hlen, rxBytes_noSync _ rfl hb, discardFrame_eq]
  case badCheck =>
    obtain ⟨c0, c1, rfl⟩ := List.length_eq_two.1 htail
    have hL : (byteOf body.length).toNat = body.length := by simp only [byteOf, BitVec.toNat_ofNat]; omega
    have hlen : 2 ≤ (byteOf body.length).toNat ∧ (byteOf body.length).toNat ≤ 224 := by omega
    have hsync : Config.sync ∉ byteOf body.length :: (body ++ [c0, c1]) := fun hm => by
      rcases List.mem_cons.1 hm with he | hm
      · have : (Config.sync).toNat = 231 := rfl
        rw [he, hL] at this
        omega
      · exact hb hm
    obtain ⟨n, hn⟩ := rxFuel_eq (Config.sync :: byteOf body.length :: (body ++ [c0, c1])) s
    rw [exec_hostFrameDiscard h, List.cons_append, List.cons_append, receive, hn,
      show n + ((Config.sync :: byteOf body.length :: (body ++ [c0, c1])).length + 1) = (n + 1) + (body.length + 4) by
        simp; omega, rxBytes_badCheck _ h.2 hlen hL.symm hcheck, rxBytes_noSync _ rfl hsync, discardFrame_eq]
  case stray =>
    have hl : fields.length + 2 ≤ Config.maxBody := by simpa [fieldsFit] using hf
    obtain ⟨n, hn⟩ := rxFuel_eq (Config.sync :: requestFrame kind tag fields) s
    have frame := rxBytes_hostFrame (kind :: tag :: fields) [] n (discardFrame s) rfl (Nat.le_add_left 2 _) hl
    rw [List.append_nil, rxBytes_nil] at frame
    have whole : receive (Config.sync :: requestFrame kind tag fields) s =
        rxBytes (n + (requestFrame kind tag fields).length) (requestFrame kind tag fields) (discardFrame s) := by
      obtain ⟨tail, htail⟩ : ∃ tail, requestFrame kind tag fields = Config.sync :: tail := ⟨_, rfl⟩
      have bad := rxBytes_badLen (len := Config.sync) (tail := tail) (n + (tail.length + 1)) h.2 (by decide)
      rw [receive, hn, htail, ← List.length_cons (a := Config.sync)]
      exact bad
    rw [exec_hostFrameDiscard h, exec_hostFrameDiscard (by exact h), whole, requestFrame, frame,
      receive_hostFrame (kind :: tag :: fields) _ (by exact h.2) (Nat.le_add_left 2 _) hl]
    rfl
  case timeoutIdle =>
    have passed : interByteTimeout (receive bytes s) = s := by
      rw [receive_noSync h.2 hb, interByteTimeout, h.2]
    exact (live_high (f := fun s => interByteTimeout (receive bytes s)) h.1).trans
      (congrArg (fun u => Host.Outcome.next (kickTx u)) passed)
  case timeoutFrame =>
    obtain ⟨state, hs, hrx⟩ := receive_partFrame h.2 hl hr
    have discarded : interByteTimeout (receive (Config.sync :: bytes) s) = discardFrame s := by
      rw [hrx, interByteTimeout_inFrame hs]
      exact receive_noSync rfl hb
    exact (live_high (f := fun s => interByteTimeout (receive (Config.sync :: bytes) s)) h.1).trans
      (congrArg (fun u => Host.Outcome.next (kickTx u)) discarded)

end Sys2Proof.Machine
end

section
/-! Admission by its cases (R140, R141, R144, R145, R150) and the Request Handler's own answers (R142, R147, R148). -/

set_option Elab.async false

namespace Sys2Proof.Machine

variable {kind tag : Byte} {crc : Check} {fields : List Byte} {s : State}

/-! ## The cases of admission -/

/-- R140 case 1: after a RESTART nothing is admitted. -/
theorem admitRequest_restartPending (hp : s.restartPending = true) : admitRequest kind tag crc fields s = s := if_pos hp

/-- R140 case 2: RESTART. -/
theorem admitRequest_restart (hp : s.restartPending = false) : admitRequest kindRestart tag crc [] s = admitRestart tag s := by
  rw [admitRequest, if_neg (Bool.eq_false_iff.1 hp), if_pos ⟨rfl, rfl⟩]

/-- R140 cases 3 and 4: the tag is in the window, or the window is full. -/
theorem admitRequest_refused (hp : s.restartPending = false) (hr : ¬(kind = kindRestart ∧ fields = []))
    (h : (∃ w ∈ s.window, w.tag = tag) ∨ 4 ≤ s.window.length) : admitRequest kind tag crc fields s =
      refuseRequest kind tag (if ∃ w ∈ s.window, w.tag = tag then .tagInUse else .windowFull) s := by
  have htag : s.window.any (fun w => w.tag == tag) = true ↔ ∃ w ∈ s.window, w.tag = tag := by simp
  rw [admitRequest, if_neg (Bool.eq_false_iff.1 hp), if_neg hr]
  by_cases hw : ∃ w ∈ s.window, w.tag = tag
  · rw [if_pos (htag.2 hw), if_pos hw]
  · rw [if_neg (mt htag.1 hw), if_neg hw, if_pos (h.resolve_left hw)]

/-- R140 cases 5 to 7: a tag that is not in the window, and room in it. -/
theorem admitRequest_room (hp : s.restartPending = false) (hr : ¬(kind = kindRestart ∧ fields = []))
    (hw : ∀ w ∈ s.window, w.tag ≠ tag) (hl : s.window.length < 4) : admitRequest kind tag crc fields s =
      (s.recent.find? fun e => e.tag == tag).elim (executeRequest kind tag crc fields s) fun e =>
        if e.crc = crc then answerRepeat kind e s else executeRequest kind tag crc fields (forgetEntry e s) := by
  have htag : ¬s.window.any (fun w => w.tag == tag) = true := by simpa using hw
  rw [admitRequest, if_neg (Bool.eq_false_iff.1 hp), if_neg hr, if_neg htag, if_neg (Nat.not_le.2 hl)]
  cases s.recent.find? fun e => e.tag == tag <;> rfl

/-- R141: the refusal slot is free. -/
theorem refuseRequest_free (code : Code) (h : s.refusal = none) :
    refuseRequest kind tag code s = { s with refusal := some ⟨replyKind kind, tag, code, .none⟩ } := by
  rw [refuseRequest, h]

/-- R141: the refusal slot is occupied. -/
theorem refuseRequest_occupied (code : Code) (h : s.refusal ≠ none) : refuseRequest kind tag code s =
    { s with counters := { s.counters with requestsDropped := min (s.counters.requestsDropped + 1) 65535 } } := by
  unfold refuseRequest
  split
  · next hn => exact absurd hn h
  · rfl

/-- Settles O6: the first cases of admission, and the refusal slot. -/
theorem unadmittedRequestsAreDiscardedOrRefused : Obligations.UnadmittedRequestsAreDiscardedOrRefused := by
  refine ⟨fun c kind tag fields s hc hf h hp => ?_, fun c kind tag fields s hc hf h hp hr hw => ⟨fun hn => ?_, fun hn => ?_⟩⟩
  · rw [exec_admits hc hf h, admitRequest_restartPending (by exact hp)]
  · rw [exec_admits hc hf h, admitRequest_refused (s := { s with rx := huntRx }) hp hr hw, refuseRequest_free _ (by exact hn)]
    rfl
  · rw [exec_admits hc hf h, admitRequest_refused (s := { s with rx := huntRx }) hp hr hw, refuseRequest_occupied _ (by exact hn)]

/-! ## Repeats and reused tags -/

/-- Taking out the one record that bears a key, behind records that do not. -/
theorem eraseP_append {α : Type} {hit : α → Bool} {xs : List α} {y : α} {ys : List α} (hx : ∀ x ∈ xs, hit x = false)
    (hy : hit y = true) : (xs ++ y :: ys).eraseP hit = xs ++ ys := by
  rw [List.eraseP_append_right _ fun x hm => Bool.eq_false_iff.1 (hx x hm), List.eraseP_cons_of_pos hy]

section
variable {older newer : List RecentEntry} {e : RecentEntry}

/-- R144: a repeat is answered with the record made the newest. -/
theorem answerRepeat_eq (hs : s.recent = older ++ e :: newer) (ho : ∀ x ∈ older, x.tag ≠ e.tag) :
    answerRepeat kind e s = { s with
      recent := older ++ newer ++ [e]
      window := s.window ++ [⟨e.tag, kind, e.crc, ownerOf kind, .replyQueued⟩]
      replyQueue := s.replyQueue ++ [⟨repeatReply e, true, false⟩] } := by
  have he : (older ++ e :: newer).eraseP (fun x => x.tag == e.tag) = older ++ newer :=
    eraseP_append (by simpa using ho) (beq_self_eq_true _)
  simp only [answerRepeat, enqueueReply, enterWindow, makeNewest, hs, he]

/-- R145: a forgotten entry is gone and its retained set freed. -/
theorem forgetEntry_eq (hs : s.recent = older ++ e :: newer) (ho : ∀ x ∈ older, x.tag ≠ e.tag) :
    forgetEntry e s = { s with recent := older ++ newer, free := s.free ++ e.retained.map Block.release } := by
  have he : (older ++ e :: newer).eraseP (fun x => x.tag == e.tag) = older ++ newer :=
    eraseP_append (by simpa using ho) (beq_self_eq_true _)
  simp only [forgetEntry, freeBlocks, hs, he]

/-- R140: the entry a tag finds. -/
theorem find_recent (hs : s.recent = older ++ e :: newer) (ho : ∀ x ∈ older, x.tag ≠ tag) (ht : e.tag = tag) :
    (s.recent.find? fun x => x.tag == tag) = some e := by
  rw [hs]
  exact find_append (by simpa using ho) (by simpa using ht)

end

/-- Settles O7: case 5 of admission, by whether the entry was released. -/
theorem repeatIsAnsweredFromTheRecord : Obligations.RepeatIsAnsweredFromTheRecord := by
  intro c kind tag fields older newer e s hc hf h hp hr hw hl hs ho ht hcrc
  have found := find_recent hs ho ht
  subst ht
  have answered : exec c s = .next (kickTx { s with
      rx := huntRx
      recent := older ++ newer ++ [e]
      window := s.window ++ [⟨e.tag, kind, e.crc, ownerOf kind, .replyQueued⟩]
      replyQueue := s.replyQueue ++ [⟨repeatReply e, true, false⟩] }) := by
    rw [exec_admits hc hf h, admitRequest_room (s := { s with rx := huntRx }) hp hr hw hl]
    dsimp only
    rw [found, Option.elim_some, if_pos hcrc, answerRepeat_eq (s := { s with rx := huntRx }) hs ho]
  refine ⟨fun hn => ?_, fun handle outcome count remaining hn hfields => ?_⟩
  · rw [answered, repeatReply, if_neg (Bool.eq_false_iff.1 hn)]
  · rw [answered, repeatReply, if_pos hn, hfields]

/-- Settles O8: case 6 of admission, and case 7 in the state that has forgotten the entry. -/
theorem tagReuseForgetsTheEntry : Obligations.TagReuseForgetsTheEntry := by
  intro c kind tag fields older newer e s hc hf h hp hr hw hl hs ho ht hcrc
  obtain ⟨hold, hnew⟩ := List.forall_mem_append.1 ho
  have found := find_recent hs hold ht
  have gone : ((older ++ newer).find? fun x => x.tag == tag) = none :=
    List.find?_eq_none.2 fun x hm => by simpa using ho x hm
  subst ht
  rw [exec_admits hc hf h, exec_admits hc hf (by exact h), admitRequest_room (s := { s with rx := huntRx }) hp hr hw hl,
    admitRequest_room (by exact hp) hr (by exact hw) (by exact hl)]
  dsimp only
  rw [found, gone, Option.elim_some, Option.elim_none, if_neg hcrc, forgetEntry_eq (s := { s with rx := huntRx }) hs hold]

/-! ## The Request Handler's own answers -/

/-- R170: a body of a wrong length. -/
theorem dispatch_badLength (hk : kindKnown kind = true) (hl : lengthFits kind fields = false) :
    dispatch kind tag fields s = answer tag .badLength .none s := by
  have hrange : 1 ≤ kind.toNat ∧ kind.toNat ≤ 0x14 := by simpa [kindKnown] using hk
  unfold dispatch
  dsimp only
  split
  case h_21 =>
    simp only [imp_false] at *
    omega
  case h_3 => rfl
  case h_17 hn =>
    split
    · next handle flags data =>
      refine if_pos ?_
      by_contra hd
      obtain ⟨hne, hle⟩ := not_or.1 hd
      have := List.length_pos_of_ne_nil hne
      simp [lengthFits, bodyLengths, hn, List.lookup] at hl
      simp only [Config.blockPayload] at hle
      omega
    · rfl
  all_goals
    next hn =>
      split
      · simp [lengthFits, bodyLengths, hn, List.lookup] at hl
      · rfl

/-- R142: a kind outside the table. -/
theorem dispatch_badKind (hk : kindKnown kind = false) : dispatch kind tag fields s = answer tag .badKind .none s := by
  have hrange : ¬(1 ≤ kind.toNat ∧ kind.toNat ≤ 0x14) := by simpa [kindKnown] using hk
  unfold dispatch
  dsimp only
  split
  case h_21 => rfl
  all_goals omega

/-- Settles O9: the length table and the kinds it knows. -/
theorem badLengthAndBadKindAreAnswered : Obligations.BadLengthAndBadKindAreAnswered := by
  intro c kind tag fields s hc hf h
  have hw := window_tag_ne_of_accepts h
  refine ⟨fun hk hl => ?_, fun hk => ?_, fun hk => ?_⟩
  · have hr : ¬(kind = kindRestart ∧ fields = []) := by
      rintro ⟨rfl, rfl⟩
      cases hl
    rw [exec_request hc hf h hr, dispatch_badLength hk hl, answer_taken hw]
  · have hr : ¬(kind = kindRestart ∧ fields = []) := by
      rintro ⟨rfl, rfl⟩
      cases hk
    rw [exec_request hc hf h hr, dispatch_badKind hk, answer_taken hw]
  · exact if_neg (by simpa [kindKnown] using hk)

/-- Settles O10: the two reports. -/
theorem queryPartAndReadStatusReport : Obligations.QueryPartAndReadStatusReport := by
  intro tag flags s h
  have hw := window_tag_ne_of_accepts h
  refine ⟨?_, rfl, ?_⟩
  · rw [exec_request (c := .queryPart tag []) (kind := kindQueryPart) (fields := []) rfl rfl h (by decide)]
    exact congrArg (fun u => Host.Outcome.next (kickTx u)) (answer_taken hw .ok .queryPart)
  · refine exec_answers (kind := kindReadStatus) rfl rfl (List.cons_ne_nil _ _) h (by split <;> rfl) ?_
    show requestReadStatus tag flags _ = _
    unfold requestReadStatus flagBit
    split <;> rfl

/-- Settles O11: case 2 of admission, and the start at the end of the reply's frame. -/
theorem restartIsAdmittedAndTakesEffect : Obligations.RestartIsAdmittedAndTakesEffect := by
  refine ⟨fun tag s h hp => ?_, fun q later bytes s hr ht hq hrestart => ?_⟩
  · rw [exec_admits (c := .restart tag []) (kind := kindRestart) rfl rfl h, admitRequest_restart (by exact hp)]
    rfl
  · rw [exec, execHostFrameSent, live_high hr, frameEnded, ht]
    dsimp only
    rw [replyEnded]
    dsimp only
    rw [hq]
    dsimp only
    rw [if_pos hrestart]
    have started : restartEffect { s with tx := none, replyQueue := q :: later } =
        { startPart .restart { s with tx := none, replyQueue := q :: later } with cold := s.cold } := rfl
    rw [started, kickTx_startPart]
    simp only [hr]
    rfl

end Sys2Proof.Machine
end

section
/-! The Line Controller's requests (R122 to R132): what each cell of the table of R123 does, and the owner's effects that
do not look at the request's own entry in the window. -/

set_option Elab.async false

namespace Sys2Proof.Machine

variable {kind tag : Byte} {fields : List Byte} {s : State}

/-! ## What a deferred reply touches -/

/-- R139, R142, R143: a deferred reply touches the tables of the Request Handler, the reply queue and the free list. -/
theorem answerDeferred_touches (w : Waits) (code : Code) (reply : ReplyFields) (s : State) :
    ∃ window recent free queue, answerDeferred w code reply s =
      { s with window := window, recent := recent, free := free, replyQueue := queue } := by
  unfold answerDeferred answer composeReply
  split
  · split
    · simp only [recordReply_eq, setWindow, enqueueReply]
      exact ⟨_, _, _, _, rfl⟩
    · exact ⟨_, _, _, _, rfl⟩
  · exact ⟨s.window, s.recent, s.free, s.replyQueue, rfl⟩

/-- R139, R142, R143: a change of the state that a deferred reply neither sees nor touches. -/
def PassesReplies (g : State → State) : Prop :=
  ∀ w code reply u, answerDeferred w code reply (g u) = g (answerDeferred w code reply u)

/-- R139, R142, R143: a deferred reply reads and writes those tables alone. -/
theorem passesReplies {g : State → State}
    (hread : ∀ s, ((g s).window, (g s).recent, (g s).free, (g s).replyQueue) = (s.window, s.recent, s.free, s.replyQueue))
    (hset : ∀ (s : State) window recent free queue,
      g { s with window := window, recent := recent, free := free, replyQueue := queue } =
        { g s with window := window, recent := recent, free := free, replyQueue := queue }) : PassesReplies g := by
  intro w code reply s
  have h := hread s
  simp only [Prod.mk.injEq] at h
  obtain ⟨hw, hr, hf, hq⟩ := h
  unfold answerDeferred answer composeReply
  rw [hw]
  split
  · next e he =>
    split
    · simp only [recordReply_eq, setWindow, enqueueReply, keptEntries, pushedOut, hw, hr, hf, hq]
      exact (hset _ _ _ _ _).symm
    · next hn =>
      have := List.find?_eq_none.1 hn e (List.mem_of_find?_eq_some he)
      simp at this
  · rfl

/-- R139, R142: a deferred reply is another request's than the one being executed. -/
theorem passesReplies_taken (kind tag : Byte) (fields : List Byte) : PassesReplies (taken kind tag fields) := by
  intro w code reply s
  have found : (taken kind tag fields s).window.find? (fun e => e.state == .deferred w) =
      s.window.find? fun e => e.state == .deferred w := by
    rw [taken, List.find?_append]
    simp
  rw [answerDeferred, answerDeferred, found]
  cases he : s.window.find? fun e => e.state == .deferred w with
  | none => rfl
  | some e =>
    have tagged : ∃ x ∈ s.window, (x.tag == e.tag) = true := ⟨e, List.mem_of_find?_eq_some he, beq_self_eq_true _⟩
    obtain ⟨x, hx⟩ := Option.isSome_iff_exists.1 (List.find?_isSome.2 tagged)
    obtain ⟨ht, older, newer, hw, ho⟩ := List.find?_eq_some_iff_append.1 hx
    have hold : ∀ y ∈ older, y.tag ≠ e.tag := fun y hy => by simpa using ho y hy
    have hwt : (taken kind tag fields s).window =
        older ++ x :: (newer ++ [⟨tag, kind, requestCheck kind tag fields, ownerOf kind, .executing⟩]) := by
      simp [taken, hw]
    dsimp only [answer]
    rw [composeReply_eq hwt hold (by simpa using ht), composeReply_eq hw hold (by simpa using ht)]
    simp only [taken, List.append_assoc, List.cons_append]
    rfl

/-- R139: a deferred reply changes the tag of no request in the window. -/
theorem answerDeferred_tags (w : Waits) (code : Code) (reply : ReplyFields) (s : State) :
    (answerDeferred w code reply s).window.map (·.tag) = s.window.map (·.tag) := by
  unfold answerDeferred answer composeReply
  split
  · split
    · simp only [recordReply_eq, setWindow, enqueueReply]
      exact map_updFirst _ (fun e : WindowEntry => { e with state := .replyQueued }) _ (fun _ => rfl) _
    · rfl
  · rfl

/-- R100: a change of the state that deferred replies and the node table do not see may be made before or after the
DISMISSING nodes are settled. -/
theorem dismissalsSettled_comm {g : State → State} (s : State)
    (hanswer : PassesReplies g)
    (hnodes : (g s).nodes = s.nodes) (hset : ∀ nodes, g { s with nodes := nodes } = { g s with nodes := nodes }) :
    dismissalsSettled (g s) = g (dismissalsSettled s) := by
  unfold dismissalsSettled
  rw [hnodes, ← hset]
  exact forEach_comm (fun a u => hanswer _ _ _ u) _ _

/-- R117: likewise for the cancellation of a sift. -/
theorem siftCancelled_comm {g : State → State} (s : State)
    (hanswer : PassesReplies g)
    (hread : ((g s).due, (g s).sift, (g s).barred) = (s.due, s.sift, s.barred))
    (hset : ∀ due sift barred, g { s with due := due, sift := sift, barred := barred } =
      { g s with due := due, sift := sift, barred := barred }) :
    siftCancelled (g s) = g (siftCancelled s) := by
  simp only [Prod.mk.injEq] at hread
  obtain ⟨hd, hs, hb⟩ := hread
  have ended : ∀ sift barred, siftEnded .cancelled { g s with sift := sift, barred := barred } =
      g (siftEnded .cancelled { s with sift := sift, barred := barred }) := fun sift barred => by
    refine (congrArg (answerDeferred _ _ _) ?_).trans (hanswer _ _ _ _)
    rw [hd]
    exact (hset _ _ _).symm
  unfold siftCancelled
  rw [hs, hb]
  split
  · rfl
  · split
    · have whole : { g s with sift := s.sift, barred := s.barred } = g s := by rw [← hs, ← hb]
      exact (congrArg (siftEnded .cancelled) whole.symm).trans (ended s.sift s.barred)
    · exact ended _ _

/-- R100: with no node DISMISSING there is none to settle. -/
theorem settleDismissals_none (h : ∀ n ∈ s.nodes, n.state ≠ .dismissing) : settleDismissals s = s := by
  have none : (s.nodes.filter fun n => n.state == .dismissing) = [] := by simpa using h
  rw [settleDismissals, none]
  rfl

/-- R117: a cancelled sift leaves the pipe and node tables as they were. -/
theorem siftCancelled_tables (s : State) : (siftCancelled s).pipes = s.pipes ∧ (siftCancelled s).nodes = s.nodes := by
  have ended : ∀ u, (siftEnded .cancelled u).pipes = u.pipes ∧ (siftEnded .cancelled u).nodes = u.nodes := fun u => by
    obtain ⟨_, _, _, _, he⟩ := answerDeferred_touches .sift .cancelled
      (.sift u.sift.joined u.sift.readopted u.sift.conflicts u.sift.unassigned)
      { u with due := u.due.filter fun e => e ≠ .sift, sift := { u.sift with state := .idle, stack := [], held := none } }
    rw [siftEnded, he]
    exact ⟨rfl, rfl⟩
  unfold siftCancelled
  split
  · exact ⟨rfl, rfl⟩
  · split
    · exact ended s
    · exact ended _

/-- R117: nor does it touch the engine or the line. -/
theorem siftCancelled_control (s : State) : control (siftCancelled s) = control s :=
  (siftCancelled_moves (run := False) s).control

/-! ## Effects beside the window -/

/-- R45: a round start does not look at the window. -/
theorem roundStep_taken (kind tag : Byte) (fields : List Byte) (s : State) :
    roundStep (taken kind tag fields s) = taken kind tag fields (roundStep s) := by
  let g : State → State := fun u => { u with
    rx := huntRx
    window := s.window ++ [⟨tag, kind, requestCheck kind tag fields, ownerOf kind, .executing⟩] }
  have append : ∀ e u, appendDue e (g u) = g (appendDue e u) := fun e u => by
    by_cases hd : e ∈ u.due
    · rw [appendDue, appendDue, if_pos hd, if_pos (by exact hd)]
    · rw [appendDue, appendDue, if_neg hd, if_neg (by exact hd)]
  have consider : ∀ h u, considerPipe h (g u) = g (considerPipe h u) := fun h u => by
    have hp : findPipe h (g u) = findPipe h u := rfl
    unfold considerPipe
    rw [hp]
    split
    · next p _ =>
      have he : pipeEligible p (g u) = pipeEligible p u := rfl
      rw [he, append]
      split <;> rfl
    · rfl
  have recalls : ∀ a u, appendRecall a (g u) = g (appendRecall a u) := fun a u => by
    have hn : findNode a (g u) = findNode a u := rfl
    have hp : pingInFlight a (g u) = pingInFlight a u := rfl
    unfold appendRecall
    rw [hn, hp, append]
    split
    · split <;> rfl
    · rfl
  have counted : ∀ u, (if (g u).due = [] then g u else countOverrun (g u)) = g (if u.due = [] then u else countOverrun u) :=
    fun u => (apply_ite g (u.due = []) u (countOverrun u)).symm
  have siftDue : ∀ u, (if siftActive (g u) then appendDue .sift (g u) else g u) =
      g (if siftActive u then appendDue .sift u else u) := fun u => by
    rw [append]
    exact (apply_ite g (siftActive u = true) _ _).symm
  have stepped : ∀ u, stepRecall (g u) = g (stepRecall u) := fun u => by
    have expiry : recallExpiry (g u) = g (recallExpiry u) :=
      congrArg (fun v : State => { v with recallCountdown := v.params.recallInterval })
        (forEach_comm recalls (u.nodes.map (·.addr)) u)
    rw [stepRecall, expiry]
    exact (apply_ite g (u.recallCountdown - 1 = 0) (recallExpiry u)
      { u with recallCountdown := u.recallCountdown - 1 }).symm
  have whole : roundStep (g s) = g (roundStep s) := by
    unfold roundStep
    dsimp only
    rw [counted]
    have considered := forEach_comm consider
      ((decrementCountdowns (if s.due = [] then s else countOverrun s)).pipes.map (·.handle))
      (decrementCountdowns (if s.due = [] then s else countOverrun s))
    refine (congrArg (fun u => stepRecall (if siftActive u then appendDue .sift u else u)) considered).trans ?_
    rw [siftDue, stepped]
  refine whole.trans ?_
  rw [taken, roundStep_window]

/-! ## SET-LOOP -/

section

variable {period window tries loss interval : Nat} {auto : Byte}

/-- R122: every value of a SET-LOOP lies in its range. -/
abbrev ParamsInRange (period window tries loss interval : Nat) (auto : Byte) : Prop :=
  (2 ≤ period ∧ period ≤ 100) ∧ (50 ≤ window ∧ window ≤ 1000 ∧ window % 10 = 0) ∧ (1 ≤ tries ∧ tries ≤ 7) ∧
    (2 ≤ loss ∧ loss ≤ 32) ∧ 16 ≤ interval ∧ auto.toNat ≤ 1

/-- R167: codes 0 and 1 name an auto-wake setting. -/
theorem autoWakeOf_eq (b : Byte) : autoWakeOf b = if b.toNat ≤ 1 then some (decide (b.toNat = 1)) else none := by
  unfold autoWakeOf
  by_cases h0 : b = 0x00#8
  · subst h0
    rfl
  · by_cases h1 : b = 0x01#8
    · subst h1
      rfl
    · have : ¬b.toNat ≤ 1 := by bv_omega
      rw [if_neg h0, if_neg h1, if_neg this]

/-- R122: values in their ranges are taken together. -/
theorem paramsOf_inRange (h : ParamsInRange period window tries loss interval auto) :
    paramsOf period window tries loss interval auto =
      some ⟨period, window, tries, loss, interval, decide (auto.toNat = 1)⟩ := by
  obtain ⟨hp, hw, ht, hl, hi, ha⟩ := h
  rw [paramsOf, if_neg (by omega), if_neg (by omega), if_neg (by omega), if_neg (by omega), if_neg (by omega),
    autoWakeOf_eq, if_pos ha]
  rfl

/-- R122: with one value outside its range none is taken. -/
theorem paramsOf_outOfRange (h : ¬ParamsInRange period window tries loss interval auto) :
    paramsOf period window tries loss interval auto = none := by
  unfold paramsOf
  repeat' split
  all_goals try rfl
  rw [autoWakeOf_eq, if_neg (by omega)]
  rfl

end

/-- R122, R142: a SET-LOOP that leaves the state `s'` before its answer. -/
theorem exec_setLoop {period wlo whi tries loss interval auto : Byte} {code : Code} {s' : State} (h : Accepts tag s)
    (hw : s'.window = s.window)
    (hd : requestSetLoop tag period wlo whi tries loss interval auto
        (taken kindSetLoop tag [period, wlo, whi, tries, loss, interval, auto] s) =
      answer tag code .none (taken kindSetLoop tag [period, wlo, whi, tries, loss, interval, auto] s')) :
    exec (.setLoop tag [period, wlo, whi, tries, loss, interval, auto]) s =
      .next (kickTx (answered 0x04 tag [period, wlo, whi, tries, loss, interval, auto] code .none [] s')) :=
  exec_answers (kind := kindSetLoop) rfl rfl (List.cons_ne_nil _ _) h hw hd

/-- Settles O12: the check of the loop state, the check of the ranges, and the values taken. -/
theorem setLoopReplacesTheParameters : Obligations.SetLoopReplacesTheParameters := by
  intro tag period wlo whi tries loss interval auto s h
  dsimp only
  have open_ : s.loop = .off ∨ s.loop = .stopped → ¬(s.loop ≠ .off ∧ s.loop ≠ .stopped) := fun hl hn =>
    hl.elim hn.1 hn.2
  refine ⟨fun ho hs => ?loopState, fun hl hr => ?badField, fun hl hr => ?ok⟩
  case loopState => exact exec_setLoop h rfl (if_pos ⟨ho, hs⟩)
  case badField =>
    refine exec_setLoop h rfl ?_
    rw [requestSetLoop, if_neg (by exact open_ hl), nat16, paramsOf_outOfRange hr]
  case ok =>
    refine exec_setLoop h rfl ?_
    rw [requestSetLoop, if_neg (by exact open_ hl), nat16, paramsOf_inRange hr]
    rfl

/-! ## The loop-state requests -/

/-- R123: the owner's act for a loop-state request. -/
def requestLoop (r : LoopRequest) (tag : Byte) : State → State :=
  match r with
  | .start => requestStartLoop tag
  | .stop => requestStopLoop tag
  | .rest => requestRestLoop tag
  | .wake => requestWakeLoop tag
  | .reset => requestLineReset tag

/-- R139, R142: a new loop-state request reaches the Line Controller, and the transmitter then chooses. -/
theorem exec_loopRequest (r : LoopRequest) (h : Accepts tag s) :
    exec (r.command tag) s = .next (kickTx (requestLoop r tag (taken r.kind tag [] s))) := by
  have kind : requestOf (r.command tag) = some (r.kind, tag, []) := by cases r <;> rfl
  have dispatched : ∀ u, dispatch r.kind tag [] u = requestLoop r tag u := fun u => by cases r <;> rfl
  rw [exec_request kind rfl h (by cases r <;> decide), dispatched]

/-- R123: the cells of the table that answer at once. -/
theorem requestLoop_prompt {r : LoopRequest} {code : Code} (h : promptCode r s.loop = some code) :
    requestLoop r tag s = answer tag code (promptFields r) s := by
  cases r with
  | start => cases hl : s.loop <;> simp_all [promptCode, requestLoop, requestStartLoop, promptFields]
  | stop => cases hl : s.loop <;> simp_all [promptCode, requestLoop, requestStopLoop, promptFields]
  | rest => cases hl : s.loop <;> simp_all [promptCode, requestLoop, requestRestLoop, promptFields]
  | wake => cases hl : s.loop <;> simp_all [promptCode, requestLoop, requestWakeLoop, promptFields]
  | reset => cases hl : s.loop <;> simp_all [promptCode, requestLoop, requestLineReset, promptFields]

/-- R123: START-LOOP in STOPPED looks at the line. -/
theorem requestStartLoop_stopped (hl : s.loop = .stopped) : requestStartLoop tag s =
    if s.lineDominant then answer tag .lineFault .none s else answer tag .ok .none (enterRunning s) := by
  rw [requestStartLoop, hl]

/-- Settles O13: the table, and the one cell of it that starts the rounds. -/
theorem loopStateRequestsAnsweredAtOnce : Obligations.LoopStateRequestsAnsweredAtOnce := by
  intro tag s h
  have hw := window_tag_ne_of_accepts h
  have start := exec_loopRequest .start h
  refine ⟨fun r code hc => ?prompt, fun hl hd => ?fault, fun hl hd => ?runs⟩
  case prompt =>
    rw [exec_loopRequest r h, requestLoop_prompt (by exact hc), answer_taken hw]
  case fault =>
    refine start.trans ?_
    rw [requestLoop, requestStartLoop_stopped (by exact hl), if_pos (by exact hd), answer_taken hw]
    rfl
  case runs =>
    refine start.trans ?_
    rw [requestLoop, requestStartLoop_stopped (by exact hl), if_neg (by exact ne_true_of_eq_false hd)]
    have begun : enterRunning (taken LoopRequest.start.kind tag [] s) =
        taken LoopRequest.start.kind tag [] (roundStep { s with loop := .running, roundTimer := true }) :=
      roundStep_taken _ _ _ { s with loop := .running, roundTimer := true }
    rw [begun, answer_taken (by simpa [roundStep_window] using hw)]
    rfl

end Sys2Proof.Machine
end

section
/-! Entry to RESETTING, the drains and their ends (R125 to R132). -/

set_option Elab.async false

namespace Sys2Proof.Machine

variable {tag : Byte} {s : State}

/-! ## What a change of other fields does not disturb -/

/-- R139: one such change behind another. -/
theorem PassesReplies.comp {f g : State → State} (hf : PassesReplies f) (hg : PassesReplies g) :
    PassesReplies fun u => f (g u) := fun w code reply u => (hf w code reply (g u)).trans (congrArg f (hg w code reply u))

/-- R56, R100: a change of the state that deferred replies and the three tables do not see may be made before or after
the due list is cleared. -/
theorem dueCleared_comm {g : State → State} (s : State)
    (hanswer : PassesReplies g)
    (hread : ((g s).nodes, (g s).due, (g s).pipes) = (s.nodes, s.due, s.pipes))
    (hset : ∀ nodes due pipes, g { s with nodes := nodes, due := due, pipes := pipes } =
      { g s with nodes := nodes, due := due, pipes := pipes }) :
    dueCleared (g s) = g (dueCleared s) := by
  simp only [Prod.mk.injEq] at hread
  obtain ⟨hn, hd, hp⟩ := hread
  have set : ∀ due pipes, g { s with due := due, pipes := pipes } = { g s with due := due, pipes := pipes } :=
    fun due pipes => (hset s.nodes due pipes).trans (by rw [← hn])
  unfold dueCleared
  rw [hd, hp, ← set]
  refine dismissalsSettled_comm _ hanswer ?_ fun nodes => ?_
  · rw [set]
    exact hn
  · rw [set]
    exact hset _ _ _

/-- R139: settling replies enters no request in the window. -/
theorem answerDeferred_tag_ne {w : Waits} {code : Code} {reply : ReplyFields} (h : ∀ e ∈ s.window, e.tag ≠ tag) :
    ∀ e ∈ (answerDeferred w code reply s).window, e.tag ≠ tag := fun e he => by
  have : e.tag ∈ s.window.map (·.tag) := answerDeferred_tags w code reply s ▸ List.mem_map_of_mem he
  obtain ⟨x, hx, hxe⟩ := List.mem_map.1 this
  exact hxe ▸ h x hx

theorem dueCleared_tag_ne (h : ∀ e ∈ s.window, e.tag ≠ tag) : ∀ e ∈ (dueCleared s).window, e.tag ≠ tag :=
  forEach_keeps (P := fun u => ∀ e ∈ u.window, e.tag ≠ tag) (fun _ _ hu => answerDeferred_tag_ne hu) _ h

theorem siftCancelled_tag_ne (h : ∀ e ∈ s.window, e.tag ≠ tag) : ∀ e ∈ (siftCancelled s).window, e.tag ≠ tag := by
  unfold siftCancelled
  split
  · exact h
  · split
    · exact answerDeferred_tag_ne h
    · exact answerDeferred_tag_ne h

/-- R155, R157: a change of the state that a notice asked for neither sees nor touches. -/
def PassesNotices (g : State → State) : Prop := ∀ b u, notify b (g u) = g (notify b u)

/-- R155, R157: a notice asked for reads and writes the Notice Unit alone. -/
theorem passesNotices {g : State → State}
    (hread : ∀ s, ((g s).notices, (g s).nextNumber, (g s).missed) = (s.notices, s.nextNumber, s.missed))
    (hset : ∀ (s : State) notices next missed, g { s with notices := notices, nextNumber := next, missed := missed } =
      { g s with notices := notices, nextNumber := next, missed := missed }) : PassesNotices g := by
  intro b s
  have h := hread s
  simp only [Prod.mk.injEq] at h
  obtain ⟨hl, hn, hm⟩ := h
  unfold notify noticeFits
  rw [hl]
  split
  · rw [hn]
    exact ((hset s _ _ s.missed).trans (by rw [← hm])).symm
  · rw [hm]
    exact ((hset s s.notices s.nextNumber _).trans (by rw [← hl, ← hn])).symm

/-- R155: nor do several. -/
theorem PassesNotices.all {g : State → State} (h : PassesNotices g) (ns : List NoticeBody) (s : State) :
    forEach notify ns (g s) = g (forEach notify ns s) := forEach_comm h ns s

/-! ## Entry to RESETTING -/

/-- R121, R139: a loop-state request being executed enters the slot. -/
theorem enterSlot_taken {kind : Byte} {fields : List Byte} (r : LoopRequest) (h : ∀ w ∈ s.window, w.tag ≠ tag) :
    enterSlot tag r (taken kind tag fields s) =
      deferred kind tag fields .loopControl { s with loopSlot := some ⟨r, 0, 0⟩ } :=
  deferReply_taken (s := { s with loopSlot := some ⟨r, 0, 0⟩ }) h _

/-- R130: entry to RESETTING with no DISMISSING node and an empty catch slot. -/
theorem enterResetting_calm (hn : ∀ n ∈ s.nodes, n.state ≠ .dismissing) (hc : s.catchSlot = none) :
    enterResetting s = forEach notify (s.pipes.flatMap fun p => discardNotices p.handle p.queue) { s with
      loop := .resetting, drainTarget := none, phase := .resetDrive, domTimer := false, roundTimer := false, due := []
      recallCountdown := s.params.recallInterval
      loopSlot := s.loopSlot.map fun sl =>
        { sl with pipes := s.pipes.length, blocks := (s.pipes.map fun p => p.queue.length).sum }
      pipes := [], nodes := [], barred := []
      free := s.free ++ (s.pipes.flatMap (·.queue)).map Block.release } := by
  have due : resetDue { s with
        loop := .resetting, drainTarget := none, phase := .resetDrive, domTimer := false, roundTimer := false } =
      { s with
        loop := .resetting, drainTarget := none, phase := .resetDrive, domTimer := false, roundTimer := false, due := []
        recallCountdown := s.params.recallInterval } := settleDismissals_none hn
  rw [enterResetting, due, dropAllPipes, catchToFree, noteRemoved, hc, removePipes_all _ _ rfl]
  exact (PassesNotices.all (g := dropAllNodes) (passesNotices (fun _ => rfl) fun _ _ _ _ => rfl) _ _).symm

/-- Settles O14: the request in the slot, and entry to RESETTING from there. -/
theorem lineResetEmptiesTheTables : Obligations.LineResetEmptiesTheTables := by
  intro tag r s h hr hn hc
  have hw := window_tag_ne_of_accepts h
  have slot := enterSlot_taken (kind := r.kind) (fields := []) (s := { s with resume := decide (r = .start) }) r hw
  have enters : requestLoop r tag (taken r.kind tag [] s) =
      enterResetting (enterSlot tag r (taken r.kind tag [] { s with resume := decide (r = .start) })) := by
    obtain ⟨rfl, hl⟩ | ⟨rfl, hl⟩ := hr
    · have hl' : (taken LoopRequest.start.kind tag [] s).loop = .off := hl
      rw [requestLoop, requestStartLoop, hl']
      rfl
    · have hl' : (taken LoopRequest.reset.kind tag [] s).loop = s.loop := rfl
      rw [requestLoop, requestLineReset, hl']
      obtain hl | hl | hl := hl <;> rw [hl] <;> rfl
  rw [exec_loopRequest r h, enters, slot, enterResetting_calm (by exact hn) (by exact hc)]
  rfl

/-! ## Drains -/

/-- R125, R126, R128: the loop leaves RUNNING with this request in the slot. -/
def drainBegun (r : LoopRequest) (tag : Byte) (target : DrainTarget) (s : State) : State :=
  { deferred r.kind tag [] .loopControl s with
    loopSlot := some ⟨r, 0, 0⟩, loop := .draining, roundTimer := false
    resume := if r = .reset then true else s.resume
    drainTarget := some target }

/-- R117, R125: the drain begins, and a sift without a call in flight is cancelled. -/
theorem beginDrain_slot (r : LoopRequest) (target : DrainTarget) (h : ∀ w ∈ s.window, w.tag ≠ tag) :
    beginDrain target (enterSlot tag r { taken r.kind tag [] s with resume := if r = .reset then true else s.resume }) =
      cancelIdleSift (drainBegun r tag target s) := by
  have slot := enterSlot_taken (kind := r.kind) (fields := [])
    (s := { s with resume := if r = .reset then true else s.resume }) r h
  exact congrArg (beginDrain target) slot

/-- R126, R128: REST-LOOP and LINE-RESET in RUNNING begin a drain. -/
theorem requestLoop_drains {r : LoopRequest} (hr : r = .rest ∨ r = .reset) (hl : s.loop = .running)
    (h : ∀ w ∈ s.window, w.tag ≠ tag) : requestLoop r tag (taken r.kind tag [] s) =
      drainEnded (cancelIdleSift (drainBegun r tag (if r = .rest then .resting else .resetting) s)) := by
  rw [← beginDrain_slot r _ h]
  have hl' : (taken r.kind tag [] s).loop = .running := hl
  obtain rfl | rfl := hr
  · rw [requestLoop, requestRestLoop, hl']
    rfl
  · rw [requestLoop, requestLineReset, hl']
    rfl

/-- R125: STOP-LOOP in RUNNING waits for the transaction in flight. -/
theorem requestLoop_stop_waits (hl : s.loop = .running) (ht : s.txn ≠ none) (h : ∀ w ∈ s.window, w.tag ≠ tag) :
    requestLoop .stop tag (taken LoopRequest.stop.kind tag [] s) = cancelIdleSift (drainBegun .stop tag .stopped s) := by
  rw [← beginDrain_slot _ _ h]
  have hl' : (taken LoopRequest.stop.kind tag [] s).loop = .running := hl
  rw [requestLoop, requestStopLoop, hl']
  exact if_neg ht

/-- R117: with a transaction in flight a sift goes on if the call is its own. -/
theorem cancelIdleSift_some {t : Transaction} (ht : s.txn = some t) :
    cancelIdleSift s = if t.entry = .sift then s else siftCancelled s := by
  rw [cancelIdleSift, siftCallInFlight, ht, cancelSift_eq]
  by_cases he : t.entry = .sift <;> simp [he]

/-- R117: with nothing in flight a sift is cancelled. -/
theorem cancelIdleSift_none (ht : s.txn = none) : cancelIdleSift s = siftCancelled s := by
  rw [cancelIdleSift, siftCallInFlight, ht, cancelSift_eq]
  rfl

/-- R129: a drain waits while a transaction is in flight. -/
theorem drainEnded_waits (ht : s.txn ≠ none) : drainEnded s = s := if_neg fun h => ht h.2.1

/-- R129: with nothing in flight the drain has reached its target. -/
theorem drainEnded_reaches (hl : s.loop = .draining) (ht : s.txn = none) (hp : s.phase = .quiet) :
    drainEnded s = reachTarget s := if_pos ⟨hl, ht, hp⟩

/-- Settles O15: the sift is looked at by the call in flight, and the drain waits for it. -/
theorem drainWaitsForTheTransaction : Obligations.DrainWaitsForTheTransaction := by
  intro tag r t s h hl ht hr
  have hw := window_tag_ne_of_accepts h
  have waits : ∀ target, drainEnded (cancelIdleSift (drainBegun r tag target s)) =
      cancelIdleSift (drainBegun r tag target s) := fun target => by
    refine drainEnded_waits ?_
    have htxn : (siftCancelled (drainBegun r tag target s)).txn = some t :=
      (siftCancelled_moves (run := False) _).txn_eq.trans ht
    rw [cancelIdleSift_some (s := drainBegun r tag target s) ht]
    split
    · exact fun hn => nomatch hn.symm.trans ht
    · exact fun hn => nomatch hn.symm.trans htxn
  rw [exec_loopRequest r h]
  obtain rfl | hr := hr
  · rw [requestLoop_stop_waits hl (by simp [ht]) hw, cancelIdleSift_some (s := drainBegun _ _ _ s) ht]
    rfl
  · rw [requestLoop_drains hr hl hw, waits, cancelIdleSift_some (s := drainBegun _ _ _ s) ht]
    obtain rfl | rfl := hr <;> rfl

/-! ## The ends of drains -/

/-- R117: a cancelled sift leaves the drain as it was. -/
theorem siftCancelled_drain (s : State) : (siftCancelled s).loop = s.loop ∧ (siftCancelled s).txn = s.txn ∧
    (siftCancelled s).phase = s.phase ∧ (siftCancelled s).drainTarget = s.drainTarget ∧
    (siftCancelled s).engine = s.engine := by
  have h := siftCancelled_control s
  simp only [control, Prod.mk.injEq] at h
  obtain ⟨-, -, -, he, ht, hl, hd, hp, -⟩ := h
  exact ⟨hl, ht, hp, hd, he⟩

/-- R117: with no sift active there is none to cancel. -/
theorem siftCancelled_idle (h : s.sift.state = .idle) : siftCancelled s = s := if_pos h

/-- R129: a drain to STOPPED is over with the transaction. -/
theorem reachTarget_stopped (hd : s.drainTarget = some .stopped) : reachTarget s = answerSlot .ok (enterStopped s) := by
  rw [reachTarget, hd]

/-- R126, R129: a drain to RESTING ends with the turnaround, and REST is sent. -/
theorem reachTarget_resting (hd : s.drainTarget = some .resting) (he : s.engine = .idle) : reachTarget s = sendRest s := by
  rw [reachTarget, hd]
  exact if_pos he

/-- R128, R129: a drain to RESETTING ends with the turnaround. -/
theorem reachTarget_resetting (hd : s.drainTarget = some .resetting) (he : s.engine = .idle) :
    reachTarget s = enterResetting s := by
  rw [reachTarget, hd]
  exact if_pos he

/-- R129: those two wait for the end of the turnaround. -/
theorem reachTarget_waits (hd : s.drainTarget = some .resting ∨ s.drainTarget = some .resetting)
    (he : s.engine = .turnaround) : reachTarget s = s := by
  have hne : ¬s.engine = .idle := by rw [he]; decide
  obtain hd | hd := hd
  · rw [reachTarget, hd]
    exact if_neg hne
  · rw [reachTarget, hd]
    exact if_neg hne

/-- R56, R126, R131: the due list is cleared as the REST broadcast begins. -/
theorem sendRest_eq (hp : (s.pipes.map (·.handle)).Nodup) (hn : (s.nodes.map (·.addr)).Nodup) :
    sendRest s = { dueCleared s with phase := .restFrame, loopTx := some ⟨0x18, 31, 0x00, []⟩ } :=
  (clearAndSettle_eq _ (by exact hp) (by exact hn)).trans
    (dueCleared_comm (g := fun u => { u with phase := .restFrame, loopTx := some restFrame }) s
      (passesReplies (fun _ => rfl) fun _ _ _ _ _ => rfl) rfl fun _ _ _ => rfl)

/-- R56: with no DISMISSING node the due list is cleared without a reply. -/
theorem clearAndSettle_calm (hp : (s.pipes.map (·.handle)).Nodup) (hn : ∀ n ∈ s.nodes, n.state ≠ .dismissing) :
    clearAndSettle s = { s with
      due := []
      pipes := s.pipes.map fun p => if DueEntry.pipe p.handle ∈ s.due then { p with countdown := 0 } else p } := by
  have cleared := forEach_dropDueEntry s.due { s with due := [] } hp
  rw [clearAndSettle, clearDue, cleared]
  exact settleDismissals_none hn

/-- R126: REST-LOOP in RUNNING with nothing in flight and the turnaround over sends REST at once. -/
theorem requestLoop_rest_sends (hl : s.loop = .running) (ht : s.txn = none) (he : s.engine = .idle)
    (hq : s.phase = .quiet) (h : ∀ w ∈ s.window, w.tag ≠ tag) : requestLoop .rest tag (taken LoopRequest.rest.kind tag [] s) =
      sendRest (siftCancelled (drainBegun .rest tag .resting s)) := by
  obtain ⟨hl', ht', hp', hd', he'⟩ := siftCancelled_drain (drainBegun .rest tag .resting s)
  rw [requestLoop_drains (.inl rfl) hl h, if_pos rfl, cancelIdleSift_none (by exact ht),
    drainEnded_reaches hl' (ht'.trans ht) (hp'.trans hq), reachTarget_resting hd' (he'.trans he)]

/-- R132: WAKE-LOOP in RESTING starts WAKING. -/
theorem requestLoop_wakes (hl : s.loop = .resting) (h : ∀ w ∈ s.window, w.tag ≠ tag) :
    requestLoop .wake tag (taken LoopRequest.wake.kind tag [] s) =
      enterWaking { deferred LoopRequest.wake.kind tag [] .loopControl s with loopSlot := some ⟨.wake, 0, 0⟩ } := by
  have hl' : (taken LoopRequest.wake.kind tag [] s).loop = .resting := hl
  rw [requestLoop, requestWakeLoop, hl']
  exact congrArg enterWaking (enterSlot_taken .wake h)

/-- Settles O16: REST by the state its drain leaves, WAKE by the line's level, and the ends of the frames. -/
theorem restAndWakeBroadcastsChangeTheLoop : Obligations.RestAndWakeBroadcastsChangeTheLoop := by
  refine ⟨⟨fun tag s h hl ht he hq hp hn => ?rest, fun tag s h hl ht he hq hp hi hn => ?restCalm, fun s hr hp => ?resting⟩,
    fun tag s h hl hd => ?wake, fun tag s h hl hd => ?wakeLater, fun s hr hp => ?settles, fun s hr hp => ?running⟩
  case rest =>
    obtain ⟨hpipes, hnodes⟩ := siftCancelled_tables (drainBegun .rest tag .resting s)
    refine (exec_loopRequest .rest h).trans ?_
    rw [requestLoop_rest_sends hl ht he hq (window_tag_ne_of_accepts h),
      sendRest_eq (by rw [hpipes]; exact hp) (by rw [hnodes]; exact hn)]
    rfl
  case restCalm =>
    have calm := clearAndSettle_calm
      (s := { drainBegun .rest tag .resting s with phase := .restFrame, loopTx := some restFrame }) hp hn
    refine (exec_loopRequest .rest h).trans ?_
    rw [requestLoop_rest_sends hl ht he hq (window_tag_ne_of_accepts h), siftCancelled_idle (by exact hi), sendRest, calm]
    rfl
  case resting =>
    refine (live_high hr).trans ?_
    rw [restEnded, if_pos hp]
  case wake =>
    refine (exec_loopRequest .wake h).trans ?_
    rw [requestLoop_wakes hl (window_tag_ne_of_accepts h), enterWaking, if_neg (by exact ne_true_of_eq_false hd)]
    rfl
  case wakeLater =>
    refine (exec_loopRequest .wake h).trans ?_
    rw [requestLoop_wakes hl (window_tag_ne_of_accepts h), enterWaking, if_pos (by exact hd)]
    rfl
  case settles =>
    refine (live_high hr).trans ?_
    rw [wakeEnded, if_pos hp]
  case running =>
    refine (live_high hr).trans ?_
    rw [wakeSettled, if_pos hp]
    rfl

/-- R56, R125, R133: the loop is STOPPED with its due list cleared, wherever the change of the loop state is said. -/
theorem enterStopped_eq (hp : (s.pipes.map (·.handle)).Nodup) (hn : (s.nodes.map (·.addr)).Nodup) :
    enterStopped s =
      { dueCleared s with loop := .stopped, drainTarget := none, roundTimer := false, domTimer := false } :=
  (clearAndSettle_eq _ (by exact hp) (by exact hn)).trans
    (dueCleared_comm (g := fun u => { u with
        loop := .stopped, drainTarget := none, roundTimer := false, domTimer := false }) s
      (passesReplies (fun _ => rfl) fun _ _ _ _ _ => rfl) rfl fun _ _ _ => rfl)

/-- R125: STOP-LOOP in RUNNING with nothing in flight stops the loop at once; its own entry in the window is left alone. -/
theorem requestLoop_stops (hl : s.loop = .running) (ht : s.txn = none) (hp : (s.pipes.map (·.handle)).Nodup)
    (hn : (s.nodes.map (·.addr)).Nodup) : requestLoop .stop tag (taken LoopRequest.stop.kind tag [] s) =
      answer tag .ok .none (taken LoopRequest.stop.kind tag [] { dueCleared (siftCancelled s) with
        loop := .stopped, drainTarget := none, roundTimer := false, domTimer := false }) := by
  have drains : beginDrain .stopped (taken LoopRequest.stop.kind tag [] s) =
      taken LoopRequest.stop.kind tag [] { siftCancelled s with
        loop := .draining, drainTarget := some .stopped, roundTimer := false } :=
    (cancelIdleSift_none (by exact ht)).trans
      (siftCancelled_comm (g := fun u => taken LoopRequest.stop.kind tag [] { u with
          loop := .draining, drainTarget := some .stopped, roundTimer := false }) s
        (PassesReplies.comp (passesReplies_taken _ _ _) (passesReplies (fun _ => rfl) fun _ _ _ _ _ => rfl)) rfl fun _ _ _ => rfl)
  obtain ⟨hpipes, hnodes⟩ := siftCancelled_tables s
  have stops : enterStopped (taken LoopRequest.stop.kind tag [] { siftCancelled s with
        loop := .draining, drainTarget := some .stopped, roundTimer := false }) =
      taken LoopRequest.stop.kind tag [] { dueCleared (siftCancelled s) with
        loop := .stopped, drainTarget := none, roundTimer := false, domTimer := false } :=
    (clearAndSettle_eq _ (by rw [← hpipes] at hp; exact hp) (by rw [← hnodes] at hn; exact hn)).trans
      (dueCleared_comm (g := fun u => taken LoopRequest.stop.kind tag [] { u with
          loop := .stopped, drainTarget := none, roundTimer := false, domTimer := false }) (siftCancelled s)
        (PassesReplies.comp (passesReplies_taken _ _ _) (passesReplies (fun _ => rfl) fun _ _ _ _ _ => rfl)) rfl fun _ _ _ => rfl)
  have hl' : (taken LoopRequest.stop.kind tag [] s).loop = .running := hl
  rw [requestLoop, requestStopLoop, hl', ← stops, ← drains]
  exact if_pos ht

/-- Settles O48: the immediate ends by the state that `drainBegun` names, and the ends of a drain by its target. -/
theorem drainEndReachesItsTarget : Obligations.DrainEndReachesItsTarget := by
  intro s hp hn
  refine ⟨fun tag h hl ht => ?stop, fun tag r h hl ht hr => ?drain, fun hr hl ht hq => ?ends⟩
  case stop =>
    refine (exec_loopRequest .stop h).trans ?_
    rw [requestLoop_stops hl ht hp hn,
      answer_taken (by exact dueCleared_tag_ne (siftCancelled_tag_ne (window_tag_ne_of_accepts h)))]
    rfl
  case drain =>
    obtain ⟨hl', ht', hp', hd', he'⟩ :=
      siftCancelled_drain (drainBegun r tag (if r = .rest then .resting else .resetting) s)
    obtain ⟨-, hnodes⟩ := siftCancelled_tables (drainBegun r tag (if r = .rest then .resting else .resetting) s)
    have drained : exec (r.command tag) s = .next (kickTx (drainEnded
        (siftCancelled (drainBegun r tag (if r = .rest then .resting else .resetting) s)))) := by
      rw [exec_loopRequest r h, requestLoop_drains hr hl (window_tag_ne_of_accepts h), cancelIdleSift_none (by exact ht)]
    refine ⟨fun he => ?_, fun hreset he hq => ?_⟩
    · have target : (siftCancelled (drainBegun r tag (if r = .rest then .resting else .resetting) s)).drainTarget =
            some .resting ∨
          (siftCancelled (drainBegun r tag (if r = .rest then .resting else .resetting) s)).drainTarget =
            some .resetting := by
        rw [hd']
        obtain rfl | rfl := hr
        · exact .inl rfl
        · exact .inr rfl
      rw [drained, drainEnded, reachTarget_waits target (he'.trans he), ite_self]
      obtain rfl | rfl := hr <;> rfl
    · subst hreset
      rw [drained, drainEnded_reaches hl' (ht'.trans ht) (hp'.trans hq), reachTarget_resetting hd' (he'.trans he),
        enterResetting_eq _ (by rw [hnodes]; exact hn)]
      rfl
  case ends =>
    have over_ : exec .drainEnd s = .next (kickTx (reachTarget s)) :=
      (live_high hr).trans (by rw [drainEnded_reaches hl ht hq])
    refine ⟨fun hd => ?_, fun hd he => ?_, fun hd he => ?_, fun hd he => ?_⟩
    · rw [over_, reachTarget_stopped hd, enterStopped_eq hp hn]
    · rw [over_, reachTarget_resting hd he, sendRest_eq hp hn]
    · rw [over_, reachTarget_resetting hd he, enterResetting_eq s hn]
    · rw [over_, reachTarget_waits hd he]

end Sys2Proof.Machine
end

section
/-! The settle of a line reset (R130), the level of the line (R131, R133) and the line fault (R134). -/

set_option Elab.async false

namespace Sys2Proof.Machine

variable {s : State}

/-! ## The settle -/

/-- R124, R130: a settle that ends with the resume flag set starts the rounds. -/
theorem endSettle_resumes (h : s.resume = true) : endSettle s =
    answerSlot .ok (roundStep { s with phase := .quiet, loop := .running, roundTimer := true }) :=
  congrArg (answerSlot .ok) (if_pos h)

/-- R128, R130: without it the loop is STOPPED. -/
theorem endSettle_stops (h : s.resume = false) : endSettle s =
    answerSlot .ok { s with phase := .quiet, loop := .stopped, domTimer := false } :=
  congrArg (answerSlot .ok) (if_neg (ne_true_of_eq_false h))

/-- Settles O49: the end of the drive, and the end of the settle by the level and the resume flag. -/
theorem settleEndsTheLineReset : Obligations.SettleEndsTheLineReset := by
  intro s hr
  refine ⟨fun hp => ?drive, fun hp hd => ?dominant, fun hp hd hs => ?resumes, fun hp hd hs => ?stops⟩
  case drive =>
    refine (live_high hr).trans ?_
    rw [driveEnded, if_pos hp]
  case dominant =>
    refine (live_high hr).trans ?_
    rw [settleExpired, if_pos hp, if_pos hd]
  case resumes =>
    refine (live_high hr).trans ?_
    rw [settleExpired, if_pos hp, if_neg (ne_true_of_eq_false hd), endSettle_resumes hs]
  case stops =>
    refine (live_high hr).trans ?_
    rw [settleExpired, if_pos hp, if_neg (ne_true_of_eq_false hd), endSettle_stops hs]

/-! ## The level of the line -/

/-- R133: out of reset a rising level is the Line Controller's and the engine's to note. -/
theorem exec_lineDominant (hr : s.rstHigh = true) : exec .lineDominant s = .next (kickTx (lineWentDominant s)) :=
  (if_pos hr).trans (live_high hr)

/-- R131, R133: out of reset the end of a level acts by the loop state. -/
theorem exec_lineRecessive {lasted : Nat} (hr : s.rstHigh = true) (hd : s.lineDominant = true) :
    exec (.lineRecessive lasted) s =
      .next (kickTx (levelEnded lasted { s with lineDominant := false, domTimer := false })) :=
  (if_pos hr).trans ((live_high hr).trans (by rw [lineWentRecessive, if_pos hd]))

/-- R132: the frame of the WAKE broadcast. -/
theorem startWake_eq (s : State) : startWake s =
    { s with loop := .waking, phase := .wakeFrame, loopTx := some ⟨0x19, 31, 0x00, []⟩ } := rfl

/-- R131: a wake pulse is reported and, with auto-wake on, wakes the loop. -/
theorem wakePulse_eq (s : State) : wakePulse s =
    let u := notify .wakeSeen s
    if s.params.autoWake then
      { u with loop := .waking, phase := .wakeFrame, loopTx := some ⟨0x19, 31, 0x00, []⟩ } else u := by
  have params : (notify .wakeSeen s).params.autoWake = s.params.autoWake := by rw [notify_params]
  rw [wakePulse, params]
  rfl

/-- R131: outside RESTING, WAKING and RESETTING the end of a level does nothing more. -/
theorem levelEnded_unwatched {lasted : Nat} (h : s.loop = .running ∨ s.loop = .draining ∨ s.loop = .off ∨ s.loop = .stopped) :
    levelEnded lasted s = s := by
  obtain h | h | h | h := h <;> rw [levelEnded, h]

/-- R131: in RESTING a level is a wake pulse by its length. -/
theorem levelEnded_resting {lasted : Nat} (h : s.loop = .resting) :
    levelEnded lasted s = if 1000 ≤ lasted ∧ lasted ≤ 8000 then wakePulse s else s := by
  rw [levelEnded, h]
  exact if_congr decide_eq_true_iff rfl rfl

/-- R132: in WAKING it ends the wait for the line. -/
theorem levelEnded_waking {lasted : Nat} (h : s.loop = .waking) :
    levelEnded lasted s = if s.phase = .wakeWait then startWake s else s := by
  rw [levelEnded, h]

/-- R130: in RESETTING it ends a settle that ran on. -/
theorem levelEnded_resetting {lasted : Nat} (h : s.loop = .resetting) :
    levelEnded lasted s = if s.phase = .settleExtended then endSettle s else s := by
  rw [levelEnded, h]

/-- Settles O50: the rising level, and its end by the loop state. -/
theorem lineLevelIsMeasured : Obligations.LineLevelIsMeasured := by
  intro lasted s hr
  refine ⟨fun hd he => ?rises, fun t hd he ht => ?heard, fun hd hl => ?nothing, fun hd hl h1 h8 => ?pulse,
    fun hd hl hp => ?wakes, fun hd hl hp => ?settles, fun hd hl => ?waits⟩
  case rises =>
    rw [exec_lineDominant hr, lineWentDominant, if_neg (ne_true_of_eq_false hd), noteActivity, if_neg (by exact he)]
  case heard =>
    rw [exec_lineDominant hr, lineWentDominant, if_neg (ne_true_of_eq_false hd), noteActivity, if_pos (by exact he), updTxn]
    dsimp only
    rw [ht, Option.map_some]
  case nothing =>
    rw [exec_lineRecessive hr hd]
    obtain hl | hl | hl | hl | ⟨hl, hlast⟩ := hl
    · rw [levelEnded_unwatched (by exact .inl hl)]
    · rw [levelEnded_unwatched (by exact .inr (.inl hl))]
    · rw [levelEnded_unwatched (by exact .inr (.inr (.inl hl)))]
    · rw [levelEnded_unwatched (by exact .inr (.inr (.inr hl)))]
    · rw [levelEnded_resting (by exact hl), if_neg (by omega)]
  case pulse =>
    rw [exec_lineRecessive hr hd, levelEnded_resting (by exact hl), if_pos ⟨h1, h8⟩, wakePulse_eq]
  case wakes =>
    rw [exec_lineRecessive hr hd, levelEnded_waking (by exact hl), if_pos (by exact hp), startWake_eq, ← hl]
  case settles =>
    rw [exec_lineRecessive hr hd, levelEnded_resetting (by exact hl), if_pos (by exact hp)]
    by_cases hs : s.resume = true
    · rw [endSettle_resumes (by exact hs)]
      dsimp only
      rw [if_pos hs]
    · rw [endSettle_stops (by exact Bool.eq_false_iff.2 hs)]
      dsimp only
      rw [if_neg hs]
  case waits =>
    rw [exec_lineRecessive hr hd]
    obtain ⟨hl, hp⟩ | ⟨hl, hp⟩ := hl
    · rw [levelEnded_waking (by exact hl), if_neg (by exact hp)]
    · rw [levelEnded_resetting (by exact hl), if_neg (by exact hp)]

end Sys2Proof.Machine
end

section
/-! ACK-NOTICES (R162), CLOSE-PIPE (R36, R37), SEND (R10) and COLLECT (R12, R13): for each the answer of every check in
order, and then the state an accepted one leaves. -/

set_option Elab.async false

namespace Sys2Proof.Machine

variable {tag handle : Byte} {s : State}

/-! ## ACK-NOTICES -/

/-- R162: a number that no notice bears is not held. -/
theorem ackCount_none {n : Nat} {ms : List Notice} (h : ∀ m ∈ ms, m.number ≠ n) : ackCount n ms = none := by
  induction ms with
  | nil => rfl
  | cons m ms ih =>
    rw [ackCount, if_neg (h m (List.mem_cons_self ..)), ih fun x hx => h x (List.mem_cons_of_mem _ hx)]
    rfl

/-- R162: the notices from the head up to and with the one named. -/
theorem ackCount_append {n : Nat} {older newer : List Notice} {m : Notice} (h : ∀ x ∈ older, x.number ≠ n)
    (hm : m.number = n) : ackCount n (older ++ m :: newer) = some (older.length + 1) := by
  induction older with
  | nil => exact if_pos hm
  | cons x xs ih =>
    rw [List.cons_append, ackCount, if_neg (h x (List.mem_cons_self ..)), ih fun y hy => h y (List.mem_cons_of_mem _ hy)]
    rfl

/-- R158, R160, R162: the notices removed, with no losses to report. -/
theorem removeNotices_eq {older newer : List Notice} {n : Notice} (hs : s.notices = older ++ n :: newer)
    (hm : s.missed = 0) :
    removeNotices (older.length + 1) s = { s with notices := newer, resendTimer := true } := by
  have rest : s.notices.drop (older.length + 1) = newer := by simp [hs, List.drop_append]
  rw [removeNotices, rest]
  exact if_neg (by simp [hm])

/-- R158: the losses are reported where there are any. -/
theorem removeNotices_missed {older newer : List Notice} {n : Notice} (hs : s.notices = older ++ n :: newer)
    (hm : 0 < s.missed) (hroom : newer.length < 16) :
    removeNotices (older.length + 1) s = { s with
      notices := newer ++ [⟨s.nextNumber, .noticesMissed s.missed, true, false⟩]
      nextNumber := if s.nextNumber = 65535 then 1 else s.nextNumber + 1
      missed := 0, resendTimer := true } := by
  have rest : s.notices.drop (older.length + 1) = newer := by simp [hs, List.drop_append]
  have fits : noticeFits { s with notices := newer, resendTimer := true } = true := decide_eq_true hroom
  rw [removeNotices, rest, reportMissed, if_pos (by exact hm), notify, if_pos fits]
  rfl

/-- R162, R142: an ACK-NOTICES that leaves the state `s'` before its answer. -/
theorem exec_ackNotices {lo hi : Byte} {code : Code} {reply : ReplyFields} {s' : State} (h : Accepts tag s)
    (hw : s'.window = s.window)
    (hd : requestAckNotices tag lo hi (taken kindAckNotices tag [lo, hi] s) =
      answer tag code reply (taken kindAckNotices tag [lo, hi] s')) :
    exec (.ackNotices tag [lo, hi]) s = .next (kickTx (answered 0x14 tag [lo, hi] code reply [] s')) :=
  exec_answers (kind := kindAckNotices) rfl rfl (List.cons_ne_nil _ _) h hw hd

/-- R162: an ACK-NOTICES whose number is held removes as many notices as its place says. -/
theorem requestAckNotices_held {lo hi : Byte} {older newer : List Notice} {n : Notice}
    (hs : s.notices = older ++ n :: newer) (hn : n.number = lo.toNat + 256 * hi.toNat)
    (ho : ∀ m ∈ older, m.number ≠ lo.toNat + 256 * hi.toNat) : requestAckNotices tag lo hi s =
      answer tag .ok (.ackNotices (older.length + 1)) (removeNotices (older.length + 1) s) := by
  rw [requestAckNotices, hs, nat16, ackCount_append ho hn]

/-- Settles O26: the number that is not held, and the removal with and without losses. -/
theorem ackNoticesRemovesUpToTheNumber : Obligations.AckNoticesRemovesUpToTheNumber := by
  intro tag lo hi older newer n s h
  refine ⟨fun hn => ?notHeld, fun hs hn ho => ⟨fun hm => ?plain, fun hm hroom => ?missed⟩⟩
  case notHeld =>
    refine exec_ackNotices h rfl ?_
    have none : ackCount (nat16 lo hi) (taken kindAckNotices tag [lo, hi] s).notices = none := ackCount_none hn
    rw [requestAckNotices, none]
  case plain =>
    refine exec_ackNotices (s' := { s with notices := newer, resendTimer := true }) h rfl ?_
    rw [requestAckNotices_held (s := taken kindAckNotices tag [lo, hi] s) hs hn ho,
      removeNotices_eq (s := taken kindAckNotices tag [lo, hi] s) hs hm]
    rfl
  case missed =>
    refine exec_ackNotices (s' := { s with
      notices := newer ++ [⟨s.nextNumber, .noticesMissed s.missed, true, false⟩]
      nextNumber := if s.nextNumber = 65535 then 1 else s.nextNumber + 1
      missed := 0, resendTimer := true }) h rfl ?_
    rw [requestAckNotices_held (s := taken kindAckNotices tag [lo, hi] s) hs hn ho,
      removeNotices_missed (s := taken kindAckNotices tag [lo, hi] s) hs hm hroom]
    rfl

/-! ## CLOSE-PIPE -/

/-- R24: the transaction in flight is the pipe's. -/
theorem pipeInFlight_eq_true {h : Nat} {t : Transaction} (ht : s.txn = some t) (he : t.entry = .pipe h) :
    pipeInFlight h s = true := by
  rw [pipeInFlight, ht]
  exact decide_eq_true he

/-- R24: no transaction in flight is the pipe's. -/
theorem pipeInFlight_eq_false {h : Nat} (ht : ∀ t, s.txn = some t → t.entry ≠ .pipe h) : pipeInFlight h s = false := by
  unfold pipeInFlight
  split
  · next t hs => exact decide_eq_false (ht t hs)
  · rfl

/-- R36: the first check, the range of the handle. -/
theorem requestClosePipe_badField (hh : 47 < handle.toNat) :
    requestClosePipe tag handle s = answer tag .badField (.closePipe 0) s := if_pos hh

/-- R36: the second check, a record of the handle. -/
theorem requestClosePipe_noPipe (hh : handle.toNat ≤ 47) (hp : findPipe handle.toNat s = none) :
    requestClosePipe tag handle s = answer tag .noPipe (.closePipe 0) s := by
  rw [requestClosePipe, if_neg (not_maxPipes_le hh), hp]

section

variable {p : Pipe}

/-- R36: the third check, a pipe that is not CLOSING. -/
theorem requestClosePipe_closing (hh : handle.toNat ≤ 47) (hp : findPipe handle.toNat s = some p)
    (hc : p.state = .closing) : requestClosePipe tag handle s = answer tag .pipeState (.closePipe 0) s := by
  rw [requestClosePipe, if_neg (not_maxPipes_le hh), hp]
  exact if_pos hc

/-- R36: with nothing of the pipe in flight it is removed at once. -/
theorem requestClosePipe_removes (hh : handle.toNat ≤ 47) (hp : findPipe handle.toNat s = some p) (hc : p.state ≠ .closing)
    (hf : pipeInFlight p.handle s = false) : requestClosePipe tag handle s =
      answer tag .ok (.closePipe p.queue.length) (removePipe p.handle (removeDue (.pipe p.handle) s)) := by
  rw [requestClosePipe, if_neg (not_maxPipes_le hh), hp]
  dsimp only
  rw [if_neg hc, if_neg (ne_true_of_eq_false hf)]

/-- R37: with its transaction in flight it waits, CLOSING. -/
theorem requestClosePipe_waits (hh : handle.toNat ≤ 47) (hp : findPipe handle.toNat s = some p) (hc : p.state ≠ .closing)
    (hf : pipeInFlight p.handle s = true) : requestClosePipe tag handle s = deferReply tag (.close p.handle)
      (removeDue (.pipe p.handle) (updPipe p.handle (fun q => { q with state := .closing }) s)) := by
  rw [requestClosePipe, if_neg (not_maxPipes_le hh), hp]
  dsimp only
  rw [if_neg hc, if_pos hf]

/-- R18: a pipe's removal does not look at the window. -/
theorem removePipe_taken {kind : Byte} {fields : List Byte} {h : Nat} (hp : findPipe h s = some p) :
    removePipe h (taken kind tag fields s) = taken kind tag fields (removePipe h s) := by
  rw [removePipe_eq hp, removePipe_eq (s := taken kind tag fields s) hp]
  exact forEach_comm (notify_taken kind tag fields) _ { s with
    pipes := s.pipes.eraseP fun q => q.handle == h
    free := s.free ++ p.queue.map Block.release }

end

/-- R36, R142: a CLOSE-PIPE that leaves the state `s'` before its answer. -/
theorem exec_closePipe {code : Code} {reply : ReplyFields} {s' : State} (h : Accepts tag s)
    (hw : s'.window = s.window)
    (hd : requestClosePipe tag handle (taken kindClosePipe tag [handle] s) =
      answer tag code reply (taken kindClosePipe tag [handle] s')) :
    exec (.closePipe tag [handle]) s = .next (kickTx (answered 0x0E tag [handle] code reply [] s')) :=
  exec_answers (kind := kindClosePipe) rfl rfl (List.cons_ne_nil _ _) h hw hd

/-- Settles O21: the refusals in order, the removal at once, and the close that waits. -/
theorem closePipeRemovesOrWaits : Obligations.ClosePipeRemovesOrWaits := by
  intro tag handle s h
  refine ⟨fun hh => ?badField, fun hh hp => ?noPipe, fun p hh hp => ⟨fun hc => ?closing, fun hc ht => ?removes,
    fun t hc ht he => ?waits⟩⟩
  case badField => exact exec_closePipe h rfl (requestClosePipe_badField hh)
  case noPipe => exact exec_closePipe h rfl (requestClosePipe_noPipe hh hp)
  case closing => exact exec_closePipe h rfl (requestClosePipe_closing hh hp hc)
  case removes =>
    have hp' : findPipe p.handle (removeDue (.pipe p.handle) s) = some p := (handle_of_findPipe hp).symm ▸ hp
    have removed := removePipe_eq hp'
    rw [exec_closePipe (s' := removePipe p.handle (removeDue (.pipe p.handle) s)) h (removePipe_window _ _) ?_, removed]
    · rfl
    · rw [requestClosePipe_removes (s := taken kindClosePipe tag [handle] s) hh hp hc (pipeInFlight_eq_false ht)]
      exact congrArg _ (removePipe_taken hp')
  case waits =>
    have deferred_ := deferReply_taken (kind := kindClosePipe) (fields := [handle])
      (s := removeDue (.pipe p.handle) (updPipe p.handle (fun q => { q with state := .closing }) s))
      (window_tag_ne_of_accepts h) (.close p.handle)
    refine (exec_request (kind := kindClosePipe) (fields := [handle]) rfl rfl h fun hr => List.cons_ne_nil _ _ hr.2).trans ?_
    refine congrArg (fun u => Host.Outcome.next (kickTx u)) ?_
    exact (requestClosePipe_waits (s := taken kindClosePipe tag [handle] s) hh hp hc (pipeInFlight_eq_true ht he)).trans deferred_

/-! ## SEND -/

section

variable {p : Pipe} {flags : Byte} {data : List Byte}

/-- R4: the outbound queue length a SEND reply carries. -/
theorem outboundLength_eq (p : Pipe) : outboundLength p = if p.dir = .outbound then p.queue.length else 0 := by
  cases hd : p.dir <;> simp [outboundLength, hd]

/-- R10: the first check, the range of the handle. -/
theorem requestSend_badField (hh : 47 < handle.toNat) :
    requestSend tag handle flags data s = answer tag .badField (.send 0) s := if_pos hh

/-- R10: the second check, a record of the handle. -/
theorem requestSend_noPipe (hh : handle.toNat ≤ 47) (hp : findPipe handle.toNat s = none) :
    requestSend tag handle flags data s = answer tag .noPipe (.send 0) s := by
  rw [requestSend, if_neg (not_maxPipes_le hh), hp]

/-- R10: the checks of the pipe found, in order. -/
theorem requestSend_found (hh : handle.toNat ≤ 47) (hp : findPipe handle.toNat s = some p) :
    requestSend tag handle flags data s =
      if p.state = .closing then answer tag .pipeState (.send (outboundLength p)) s
      else if p.dir = .inbound then answer tag .wrongDirection (.send (outboundLength p)) s
      else if p.quota ≤ p.queue.length then answer tag .quota (.send (outboundLength p)) s
      else if s.free.length ≤ 8 then answer tag .noBlock (.send (outboundLength p)) s
      else answer tag .ok (.send (outboundLength p + 1))
        (takeForSend handle.toNat (if flags.getLsbD 0 then some tag else none) data s) := by
  rw [requestSend, if_neg (not_maxPipes_le hh), hp, ← handle_of_findPipe hp]
  rfl

/-- R10: the free-list head, filled, joins the tail of the queue. -/
theorem takeForSend_eq {h : Nat} {confirm : Option Byte} {b : Block} {rest : List Block} (hf : s.free = b :: rest) :
    takeForSend h confirm data s =
      updPipe h (fun q => { q with queue := q.queue ++ [⟨b.index, data, false, confirm⟩] }) { s with free := rest } := by
  rw [takeForSend, hf]

/-- R10, R142: a SEND of data that fits a block reaches the pool. -/
theorem exec_send {code : Code} {reply : ReplyFields} {s' : State} (h : Accepts tag s) (h1 : 1 ≤ data.length)
    (h64 : data.length ≤ 64) (hw : s'.window = s.window)
    (hd : requestSend tag handle flags data (taken kindSend tag (handle :: flags :: data) s) =
      answer tag code reply (taken kindSend tag (handle :: flags :: data) s')) :
    exec (.send tag (handle :: flags :: data)) s =
      .next (kickTx (answered 0x11 tag (handle :: flags :: data) code reply [] s')) := by
  refine exec_answers (kind := kindSend) rfl ?_ (List.cons_ne_nil _ _) h hw ?_
  · simp [fieldsFit, Config.maxBody]
    omega
  · have fits : ¬(data = [] ∨ Config.blockPayload < data.length) :=
      not_or.2 ⟨List.length_pos_iff.1 h1, Nat.not_lt.2 h64⟩
    exact (if_neg fits).trans hd

end

/-- Settles O23: the refusals in the order of the checks, and the block moved. -/
theorem sendQueuesOneBlock : Obligations.SendQueuesOneBlock := by
  intro tag handle flags data s h h1 h64
  refine ⟨fun hh => ?badField, fun hh hp => ?noPipe, fun p hh hp => ⟨fun hc => ?closing, fun hc hd => ?wrongDirection,
    fun hc hd hq => ?quota, fun hc hd hq hf => ?noBlock, fun b rest hc hd hq hf hb => ?ok⟩⟩
  case badField => exact exec_send h h1 h64 rfl (requestSend_badField hh)
  case noPipe => exact exec_send h h1 h64 rfl (requestSend_noPipe hh hp)
  case closing =>
    refine exec_send h h1 h64 rfl ?_
    rw [requestSend_found hh (by exact hp), if_pos hc, outboundLength_eq]
  case wrongDirection =>
    refine exec_send h h1 h64 rfl ?_
    rw [requestSend_found hh (by exact hp), if_neg hc, if_pos hd, outboundLength_eq, if_neg (by simp [hd])]
  case quota =>
    refine exec_send h h1 h64 rfl ?_
    rw [requestSend_found hh (by exact hp), if_neg hc, if_neg (by simp [hd]), if_pos hq, outboundLength_eq, if_pos hd]
  case noBlock =>
    refine exec_send h h1 h64 rfl ?_
    rw [requestSend_found hh (by exact hp), if_neg hc, if_neg (by simp [hd]), if_neg (by omega), if_pos (by exact hf),
      outboundLength_eq, if_pos hd]
  case ok =>
    refine exec_send (s' := updPipe handle.toNat (fun q => { q with queue := q.queue ++
      [⟨b.index, data, false, if flags.getLsbD 0 then some tag else none⟩] }) { s with free := rest }) h h1 h64 rfl ?_
    rw [requestSend_found hh (by exact hp), if_neg hc, if_neg (by simp [hd]), if_neg (by omega),
      if_neg (by exact Nat.not_le.2 hf), outboundLength_eq, if_pos hd, takeForSend_eq (by exact hb)]
    rfl

/-! ## COLLECT -/

section

variable {max flags releaseTag : Byte} {outcome : ReleaseOutcome} {r : State} {p : Pipe} {fields : List Byte}

/-- R12: the release of a COLLECT being executed, whose own tag is in the window. -/
theorem releaseStep_taken (hr : ∀ e ∈ s.recent, e.tag ≠ tag) (h : Releases tag flags releaseTag outcome s r) :
    releaseStep flags releaseTag (taken kindCollect tag fields s) = (outcome, taken kindCollect tag fields r) := by
  have window : (taken kindCollect tag fields s).window.any (fun w => w.tag == releaseTag) =
      (s.window.any (fun w => w.tag == releaseTag) || tag == releaseTag) := by simp [taken]
  obtain ⟨hf, rfl, hrs⟩ | ⟨hf, rfl, hrs, hn⟩ | ⟨hf, rfl, hw, older, e, newer, hs, ho, ht, hk, hne, rfl⟩ := h
  · obtain rfl := hrs.symm
    rw [releaseStep, flagBit, if_neg (ne_true_of_eq_false hf)]
  · obtain rfl := hrs.symm
    have none : releasable releaseTag (taken kindCollect tag fields s) = none := by
      rw [releasable, window]
      obtain rfl | ⟨w, hw, hwt⟩ | hall := hn
      · simp
      · rw [if_pos]
        simpa using Or.inl ⟨w, hw, hwt⟩
      · split
        · rfl
        · refine List.find?_eq_none.2 fun e he => ?_
          have := hall e he
          simp only [holdsRetained, kindCollect, Bool.and_eq_true, beq_iff_eq, Bool.not_eq_true', List.isEmpty_eq_false_iff,
            not_and, not_not]
          exact fun h => this h.1 h.2
    rw [releaseStep, flagBit, if_pos hf, none]
  · have hits : holdsRetained releaseTag e = true := by simp [holdsRetained, ht, hk, hne, kindCollect]
    have misses : ∀ x ∈ older, holdsRetained releaseTag x = false := fun x hx => by simp [holdsRetained, ho x hx]
    have found : releasable releaseTag (taken kindCollect tag fields s) = some e := by
      rw [releasable, window, if_neg]
      · exact (congrArg _ hs).trans (find_append misses hits)
      · have own : tag ≠ releaseTag := fun he => hr e (by simp [hs]) (ht.trans he.symm)
        simpa [own] using hw
    have marked : updFirst (holdsRetained releaseTag) markReleased s.recent = older ++ markReleased e :: newer := by
      rw [hs]
      exact updFirst_append misses hits
    rw [releaseStep, flagBit, if_pos hf, found]
    exact congrArg (fun recent => (ReleaseOutcome.released,
      freeBlocks e.retained { taken kindCollect tag fields s with recent := recent })) marked

/-- R8: releasing a retained set moves no pipe and enters nothing in the window. -/
theorem releases_keeps (h : Releases tag flags releaseTag outcome s r) : r.pipes = s.pipes ∧ r.window = s.window := by
  obtain ⟨-, -, rfl⟩ | ⟨-, -, rfl, -⟩ | ⟨-, -, -, -, -, -, -, -, -, -, -, rfl⟩ := h <;> exact ⟨rfl, rfl⟩

/-- R4: the inbound queue length a COLLECT reply counts from. -/
theorem inboundLength_eq (p : Pipe) : inboundLength p = if p.dir = .inbound then p.queue.length else 0 := by
  cases hd : p.dir <;> simp [inboundLength, hd]

/-- R13: the first check, the range of the maximum count; the remaining field counts the queue found, if one is. -/
theorem collectStep_badMax (hm : max.toNat = 0 ∨ 3 < max.toNat) : collectStep tag handle max outcome s =
    answer tag .badField (.collect handle outcome 0
      (if handle.toNat ≤ 47 then ((findPipe handle.toNat s).map inboundLength).getD 0 else 0)) s := by
  have range : (if handle.toNat ≤ 47 then ((findPipe handle.toNat s).map inboundLength).getD 0 else 0) =
      if Config.maxPipes ≤ handle.toNat then 0 else ((findPipe handle.toNat s).map inboundLength).getD 0 := by
    by_cases hh : handle.toNat ≤ 47
    · rw [if_pos hh, if_neg (not_maxPipes_le hh)]
    · have hh' : Config.maxPipes ≤ handle.toNat := Nat.not_le.1 hh
      rw [if_neg hh, if_pos hh']
  rw [range]
  exact if_pos (hm.imp_left fun h => Nat.lt_one_iff.2 h)

/-- R13: the second check, the range of the handle. -/
theorem collectStep_badField (h1 : 1 ≤ max.toNat) (h3 : max.toNat ≤ 3) (hh : 47 < handle.toNat) :
    collectStep tag handle max outcome s = answer tag .badField (.collect handle outcome 0 0) s := by
  have hh' : Config.maxPipes ≤ handle.toNat := hh
  unfold collectStep
  dsimp only
  rw [if_neg (not_or.2 ⟨Nat.not_lt.2 h1, Nat.not_lt.2 h3⟩), if_pos hh', if_pos hh']

/-- R13: the third check, a record of the handle. -/
theorem collectStep_noPipe (h1 : 1 ≤ max.toNat) (h3 : max.toNat ≤ 3) (hh : handle.toNat ≤ 47)
    (hp : findPipe handle.toNat s = none) :
    collectStep tag handle max outcome s = answer tag .noPipe (.collect handle outcome 0 0) s := by
  unfold collectStep
  dsimp only
  rw [if_neg (not_or.2 ⟨Nat.not_lt.2 h1, Nat.not_lt.2 h3⟩), if_neg (not_maxPipes_le hh), if_neg (not_maxPipes_le hh), hp]
  rfl

/-- R13: the checks of the pipe found, and the blocks taken from its head. -/
theorem collectStep_found (h1 : 1 ≤ max.toNat) (h3 : max.toNat ≤ 3) (hh : handle.toNat ≤ 47)
    (hp : findPipe handle.toNat s = some p) : collectStep tag handle max outcome s =
      if p.state = .closing then answer tag .pipeState (.collect handle outcome 0 (inboundLength p)) s
      else if p.dir = .outbound then answer tag .wrongDirection (.collect handle outcome 0 (inboundLength p)) s
      else composeReply tag .ok
        (.collect handle outcome (p.queue.take max.toNat).length (p.queue.length - (p.queue.take max.toNat).length))
        (p.queue.take max.toNat) (takeForCollect handle.toNat (p.queue.take max.toNat).length s) := by
  unfold collectStep
  dsimp only
  rw [if_neg (not_or.2 ⟨Nat.not_lt.2 h1, Nat.not_lt.2 h3⟩), if_neg (not_maxPipes_le hh), if_neg (not_maxPipes_le hh), hp,
    ← handle_of_findPipe hp]
  rfl

/-- R13: what the taking leaves of the pipe found. -/
theorem takeForCollect_eq {h n : Nat} (hp : findPipe h s = some p) :
    takeForCollect h (p.queue.take n).length s = updPipe h (fun q => { q with
      queue := p.queue.drop n
      waitingReported := decide (n < p.queue.length) && q.waitingReported }) s := by
  have rest : p.queue.drop (p.queue.take n).length = p.queue.drop n := by
    rw [List.length_take]
    by_cases hn : n ≤ p.queue.length
    · rw [Nat.min_eq_left hn]
    · rw [Nat.min_eq_right (by omega), List.drop_of_length_le (Nat.le_refl _), List.drop_of_length_le (by omega)]
  refine updPipe_congr hp ?_
  rw [rest]
  by_cases hn : n < p.queue.length
  · simp [hn, List.isEmpty_iff, List.drop_eq_nil_iff, Nat.not_le.2 hn]
  · simp [hn, List.isEmpty_iff, List.drop_eq_nil_iff, Nat.not_lt.1 hn]

/-- R12, R13, R142: a new COLLECT makes its release and then its collect part, and the transmitter chooses. -/
theorem exec_collect (h : Accepts tag s) (hr : Releases tag flags releaseTag outcome s r) :
    exec (.collect tag [handle, max, flags, releaseTag]) s = .next (kickTx
      (collectStep tag handle max outcome (taken kindCollect tag [handle, max, flags, releaseTag] r))) := by
  obtain ⟨_, _, _, _, hrec⟩ := id h
  refine (exec_request (kind := kindCollect) (fields := [handle, max, flags, releaseTag]) rfl rfl h
    fun hn => List.cons_ne_nil _ _ hn.2).trans ?_
  refine congrArg (fun u => Host.Outcome.next (kickTx u)) ?_
  show requestCollect tag handle max flags releaseTag _ = _
  rw [requestCollect, releaseStep_taken hrec hr]

/-- R12, R13: a COLLECT whose collect part is refused has made its release. -/
theorem exec_collect_refused {code : Code} {remaining : Nat} (h : Accepts tag s)
    (hr : Releases tag flags releaseTag outcome s r)
    (hd : ∀ u : State, u.pipes = s.pipes → collectStep tag handle max outcome u =
      answer tag code (.collect handle outcome 0 remaining) u) :
    exec (.collect tag [handle, max, flags, releaseTag]) s = .next (kickTx (answered 0x12 tag
      [handle, max, flags, releaseTag] code (.collect handle outcome 0 remaining) [] r)) := by
  obtain ⟨hp, hw⟩ := releases_keeps hr
  rw [exec_collect h hr, hd (taken kindCollect tag [handle, max, flags, releaseTag] r) hp,
    answer_taken (hw ▸ window_tag_ne_of_accepts h)]
  rfl

end

/-- Settles O24: the release by `releaseStep_taken`, the refusals in the order of the checks, and the blocks taken. -/
theorem collectReleasesFirstAndTakesFromTheHead : Obligations.CollectReleasesFirstAndTakesFromTheHead := by
  intro tag handle max flags releaseTag outcome s r h hr
  have found : ∀ u : State, u.pipes = s.pipes → findPipe handle.toNat u = findPipe handle.toNat s := fun u hu => by
    rw [findPipe, hu]
    rfl
  refine ⟨fun hm => ?badMax, fun h1 h3 => ⟨fun hh => ?badField, fun hh hp => ?noPipe, fun p hh hp => ⟨fun hc => ?closing,
    fun hc hd => ?wrongDirection, fun hc hd => ?ok⟩⟩⟩
  case badMax =>
    refine exec_collect_refused h hr fun u hu => ?_
    rw [collectStep_badMax hm, found u hu, funext inboundLength_eq]
  case badField => exact exec_collect_refused h hr fun u _ => collectStep_badField h1 h3 hh
  case noPipe => exact exec_collect_refused h hr fun u hu => collectStep_noPipe h1 h3 hh ((found u hu).trans hp)
  case closing =>
    refine exec_collect_refused h hr fun u hu => ?_
    rw [collectStep_found h1 h3 hh ((found u hu).trans hp), if_pos hc, inboundLength_eq]
  case wrongDirection =>
    refine exec_collect_refused h hr fun u hu => ?_
    rw [collectStep_found h1 h3 hh ((found u hu).trans hp), if_neg hc, if_pos hd, inboundLength_eq, if_neg (by simp [hd])]
  case ok =>
    obtain ⟨hpipes, hw⟩ := releases_keeps hr
    have hp' : findPipe handle.toNat (taken kindCollect tag [handle, max, flags, releaseTag] r) = some p :=
      (found _ hpipes).trans hp
    rw [exec_collect h hr, collectStep_found h1 h3 hh hp', if_neg hc, if_neg (by simp [hd]), takeForCollect_eq hp',
      updPipe_taken, composeReply_taken (by simpa [hw] using window_tag_ne_of_accepts h), List.length_take]
    have remaining : p.queue.length - min max.toNat p.queue.length = p.queue.length - max.toNat := by omega
    rw [remaining]
    rfl

end Sys2Proof.Machine
end

section
/-! DISMISS-NODE (R96, R97), and the removal of a node's pipes (R41). -/

set_option Elab.async false

namespace Sys2Proof.Machine

variable {tag addr : Byte} {s : State}

/-! ## The removal of a node's pipes -/

/-- Where keys are distinct, taking out the record that bears a key leaves the records of other keys. -/
theorem eraseP_eq_filter {α : Type} {key : α → Nat} (k : Nat) {xs : List α} (h : (xs.map key).Nodup) :
    xs.eraseP (fun x => key x == k) = xs.filter fun x => key x ≠ k := by
  induction xs with
  | nil => rfl
  | cons x xs ih =>
    simp only [List.map_cons, List.nodup_cons, List.mem_map, not_exists, not_and] at h
    by_cases hx : key x = k
    · have others : ∀ y ∈ xs, key y ≠ k := fun y hy he => h.1 y hy (he.trans hx.symm)
      rw [List.eraseP_cons_of_pos (by simpa using hx), List.filter_cons_of_neg (by simpa using hx)]
      exact (List.filter_eq_self.2 fun y hy => by simpa using others y hy).symm
    · rw [List.eraseP_cons_of_neg (by simpa using hx), List.filter_cons_of_pos (by simpa using hx), ih h.2]

/-- R41: pipes of the table are removed in the order given, each queue discarded head first. -/
theorem removePipes_eq (gone : List Pipe) (s : State) (hn : (s.pipes.map (·.handle)).Nodup)
    (hg : (gone.map (·.handle)).Nodup) (hm : ∀ p ∈ gone, p ∈ s.pipes) :
    removePipes (gone.map (·.handle)) s = forEach notify (gone.flatMap fun p => discardNotices p.handle p.queue)
      { s with
        pipes := s.pipes.filter fun p => p.handle ∉ gone.map (·.handle)
        free := s.free ++ (gone.flatMap (·.queue)).map Block.release } := by
  induction gone generalizing s with
  | nil =>
    have all : (s.pipes.filter fun p => p.handle ∉ ([] : List Pipe).map (·.handle)) = s.pipes :=
      List.filter_eq_self.2 fun _ _ => by simp
    rw [all]
    simp only [List.flatMap_nil, List.map_nil, List.append_nil]
    rfl
  | cons p gone ih =>
    simp only [List.map_cons, List.nodup_cons] at hg
    have hf : findPipe p.handle s = some p := by
      have hmem := hm p (List.mem_cons_self ..)
      obtain ⟨q, hq⟩ := Option.isSome_iff_exists.1 (List.find?_isSome (p := fun q : Pipe => q.handle == p.handle).2
        ⟨p, hmem, beq_self_eq_true _⟩)
      have same := List.inj_on_of_nodup_map hn (List.mem_of_find?_eq_some hq) hmem (by simpa using List.find?_some hq)
      exact same ▸ hq
    let after : State := { s with
      pipes := s.pipes.filter fun q => q.handle ≠ p.handle, free := s.free ++ p.queue.map Block.release }
    have first : removePipe p.handle s = forEach notify (discardNotices p.handle p.queue) after := by
      rw [removePipe_eq hf, eraseP_eq_filter (key := fun q : Pipe => q.handle) p.handle hn]
    obtain ⟨hpipes, hfree⟩ := forEach_notify_pool (discardNotices p.handle p.queue) after
    have rest := ih (forEach notify (discardNotices p.handle p.queue) after)
      (by rw [hpipes]; exact hn.sublist (List.filter_sublist.map _)) hg.2 fun q hq => by
        rw [hpipes]
        refine List.mem_filter.2 ⟨hm q (List.mem_cons_of_mem _ hq), ?_⟩
        exact decide_eq_true fun he => hg.1 (he ▸ List.mem_map_of_mem hq)
    have left : (s.pipes.filter fun q => q.handle ≠ p.handle).filter (fun q => q.handle ∉ gone.map (·.handle)) =
        s.pipes.filter fun q => q.handle ∉ (p :: gone).map (·.handle) := by
      rw [List.filter_filter]
      refine List.filter_congr fun q _ => ?_
      rw [Bool.eq_iff_iff]
      simp [and_comm]
    have comm := forEach_comm (f := notify) (g := fun u => { u with
      pipes := s.pipes.filter fun q => q.handle ∉ (p :: gone).map (·.handle)
      free := (s.free ++ p.queue.map Block.release) ++ (gone.flatMap fun q => q.queue).map Block.release })
      (fun b u => notify_of_pool b _ _ u) (discardNotices p.handle p.queue) after
    refine (congrArg (removePipes (gone.map (·.handle))) first).trans (rest.trans ?_)
    rw [hpipes, hfree, left]
    simp only [List.flatMap_cons, forEach_append, List.map_append, ← List.append_assoc]
    exact congrArg (forEach notify _) comm.symm

/-- R41: the pipes of one node. -/
theorem removePipes_handlesOf (a : Nat) (hn : (s.pipes.map (·.handle)).Nodup) : removePipes (handlesOf a s) s =
    forEach notify ((s.pipes.filter fun p => p.node == a).flatMap fun p => discardNotices p.handle p.queue) { s with
      pipes := s.pipes.filter fun p => p.node ≠ a
      free := s.free ++ ((s.pipes.filter fun p => p.node == a).flatMap (·.queue)).map Block.release } := by
  have left : (s.pipes.filter fun p => p.handle ∉ (s.pipes.filter fun p => p.node == a).map (·.handle)) =
      s.pipes.filter fun p => p.node ≠ a := by
    refine List.filter_congr fun p hp => decide_eq_decide.2 (not_congr ⟨fun h => ?_, fun h => ?_⟩)
    · obtain ⟨q, hq, he⟩ := List.mem_map.1 h
      have same := List.inj_on_of_nodup_map hn (List.mem_of_mem_filter hq) hp he
      simpa [same] using (List.mem_filter.1 hq).2
    · exact List.mem_map_of_mem (List.mem_filter.2 ⟨hp, by simpa using h⟩)
  rw [handlesOf, removePipes_eq _ s hn (hn.sublist (List.filter_sublist.map _)) fun p hp => List.mem_of_mem_filter hp, left]

/-- R41, R97, R98: a node's removal takes its pipes and then its record. -/
theorem removeNode_eq (a : Nat) (hn : (s.pipes.map (·.handle)).Nodup) : removeNode a s =
    forEach notify ((s.pipes.filter fun p => p.node == a).flatMap fun p => discardNotices p.handle p.queue) { s with
      pipes := s.pipes.filter fun p => p.node ≠ a
      nodes := s.nodes.eraseP fun m => m.addr == a
      free := s.free ++ ((s.pipes.filter fun p => p.node == a).flatMap (·.queue)).map Block.release } := by
  have nodes : (removePipes (handlesOf a s) s).nodes = s.nodes := (removePipes_nodes _ s).1
  rw [removeNode, nodes, removePipes_handlesOf a hn]
  exact (PassesNotices.all (g := fun u => { u with nodes := s.nodes.eraseP fun m => m.addr == a })
    (passesNotices (fun _ => rfl) fun _ _ _ _ => rfl) _ _).symm

/-- R41, R97: the tables without a LOST node, its address barred, before the DELIVERED notices of its pipes' queues. -/
def lostNodeGone (a : Nat) (s : State) : State :=
  { s with
    due := s.due.filter fun e => e ≠ .recall a
    pipes := s.pipes.filter fun p => p.node ≠ a
    nodes := s.nodes.eraseP fun m => m.addr == a
    barred := barredWith a s.barred
    free := s.free ++ ((s.pipes.filter fun p => p.node == a).flatMap (·.queue)).map Block.release }

/-- R97: DISMISS-NODE's removal of a LOST node. -/
theorem removeLostNode_eq (a : Nat) (hn : (s.pipes.map (·.handle)).Nodup) : removeLostNode a s =
    forEach notify ((s.pipes.filter fun p => p.node == a).flatMap fun p => discardNotices p.handle p.queue)
      (lostNodeGone a s) := by
  have kept : (removeNode a (removeDue (.recall a) s)).barred = s.barred := (removePipes_nodes _ _).2
  rw [removeLostNode, barAddress_eq, kept, removeNode_eq (s := removeDue (.recall a) s) a hn]
  exact (PassesNotices.all (g := fun u => { u with barred := barredWith a s.barred })
    (passesNotices (fun _ => rfl) fun _ _ _ _ => rfl) _ _).symm

/-! ## DISMISS-NODE -/

/-- R96: the first check, the range of the address. -/
theorem requestDismissNode_badField (ha : addr.toNat < 1 ∨ 30 < addr.toNat) :
    requestDismissNode tag addr s = answer tag .badField (.dismissNode 0) s := if_pos ha

/-- R96: the second check, a record at the address. -/
theorem requestDismissNode_noNode (h1 : 1 ≤ addr.toNat) (h30 : addr.toNat ≤ 30) (hn : findNode addr.toNat s = none) :
    requestDismissNode tag addr s = answer tag .noNode (.dismissNode 0) s := by
  rw [requestDismissNode, if_neg (not_address_out_of_range h1 h30), hn]

section

variable {n : Node} (h1 : 1 ≤ addr.toNat) (h30 : addr.toNat ≤ 30) (hn : findNode addr.toNat s = some n)

include h1 h30 hn

/-- R96: a node that is already DISMISSING. -/
theorem requestDismissNode_dismissing (hs : n.state = .dismissing) :
    requestDismissNode tag addr s = answer tag .busy (.dismissNode 0) s := by
  rw [requestDismissNode, if_neg (not_address_out_of_range h1 h30), hn]
  dsimp only
  rw [hs]

/-- R97: a LOST node is removed in every loop state. -/
theorem requestDismissNode_lost (hs : n.state = .lost) : requestDismissNode tag addr s =
    answer tag .ok (.dismissNode (s.pipes.filter fun p => p.node == addr.toNat).length) (removeLostNode addr.toNat s) := by
  have handles : (handlesOf addr.toNat s).length = (s.pipes.filter fun p => p.node == addr.toNat).length :=
    List.length_map ..
  rw [requestDismissNode, if_neg (not_address_out_of_range h1 h30), hn]
  dsimp only
  rw [hs, addr_of_findNode hn, ← handles]

/-- R96: an ENROLLED node is dismissed in RUNNING. -/
theorem requestDismissNode_enrolled (hs : n.state = .enrolled) : requestDismissNode tag addr s =
    if s.loop = .running then deferReply tag (.dismiss addr.toNat) (beginDismissal addr.toNat s)
    else answer tag .loopState (.dismissNode 0) s := by
  rw [requestDismissNode, if_neg (not_address_out_of_range h1 h30), hn]
  dsimp only
  rw [hs, addr_of_findNode hn]

end

/-- R51, R52, R96: how a dismissal begins, its entry not yet on the due list. -/
theorem beginDismissal_eq {a : Nat} (hd : DueEntry.dismiss a ∉ s.due) : beginDismissal a s =
    updNode a (fun m => { m with state := .dismissing, dismissTries := 0 }) { s with
      due := (s.due.filter fun e => e ∉ ((s.pipes.filter fun p => p.node == a).map fun p => DueEntry.pipe p.handle)) ++
        [.dismiss a] } := by
  have handles : (handlesOf a s).map DueEntry.pipe =
      (s.pipes.filter fun p => p.node == a).map fun p => DueEntry.pipe p.handle := List.map_map ..
  have absent : DueEntry.dismiss a ∉ s.due.filter fun e => e ∉ (handlesOf a s).map DueEntry.pipe := fun h =>
    hd (List.mem_of_mem_filter h)
  rw [← handles]
  exact if_neg absent

/-- R96, R142: a DISMISS-NODE that leaves the state `s'` before its answer. -/
theorem exec_dismissNode {code : Code} {reply : ReplyFields} {s' : State} (h : Accepts tag s)
    (hw : s'.window = s.window)
    (hd : requestDismissNode tag addr (taken kindDismissNode tag [addr] s) =
      answer tag code reply (taken kindDismissNode tag [addr] s')) :
    exec (.dismissNode tag [addr]) s = .next (kickTx (answered 0x0C tag [addr] code reply [] s')) :=
  exec_answers (kind := kindDismissNode) rfl rfl (List.cons_ne_nil _ _) h hw hd

/-- Settles O19: the refusals in order, the dismissal that waits, and the removal of a LOST node. -/
theorem dismissNodeChecksDefersOrRemoves : Obligations.DismissNodeChecksDefersOrRemoves := by
  refine ⟨fun tag addr s h => ⟨fun ha => ?badField, fun h1 h30 hn => ?noNode, fun n h1 h30 hn => ⟨fun hs => ?dismissing,
    fun hs hl => ?loopState, fun hs hl hd => ?waits⟩⟩, fun tag addr n s h hp h1 h30 hn hs hb => ?removes⟩
  case badField => exact exec_dismissNode h rfl (requestDismissNode_badField ha)
  case noNode => exact exec_dismissNode h rfl (requestDismissNode_noNode h1 h30 hn)
  case dismissing =>
    exact exec_dismissNode h rfl
      (requestDismissNode_dismissing (s := taken kindDismissNode tag [addr] s) h1 h30 hn hs)
  case loopState =>
    refine exec_dismissNode h rfl ?_
    rw [requestDismissNode_enrolled (s := taken kindDismissNode tag [addr] s) h1 h30 hn hs, if_neg (by exact hl)]
  case waits =>
    have deferred_ := deferReply_taken (kind := kindDismissNode) (fields := [addr]) (s := beginDismissal addr.toNat s)
      (by simpa [beginDismissal_eq hd] using window_tag_ne_of_accepts h) (.dismiss addr.toNat)
    have begun : beginDismissal addr.toNat (taken kindDismissNode tag [addr] s) =
        taken kindDismissNode tag [addr] (beginDismissal addr.toNat s) := by
      rw [beginDismissal_eq hd, beginDismissal_eq (s := taken kindDismissNode tag [addr] s) hd]
      rfl
    have dismissed := requestDismissNode_enrolled (tag := tag) (s := taken kindDismissNode tag [addr] s) h1 h30 hn hs
    rw [if_pos (by exact hl), begun, deferred_, beginDismissal_eq hd] at dismissed
    refine (exec_request (kind := kindDismissNode) (fields := [addr]) rfl rfl h fun hr => List.cons_ne_nil _ _ hr.2).trans ?_
    exact congrArg (fun u => Host.Outcome.next (kickTx u)) dismissed
  case removes =>
    refine ⟨barredWith addr.toNat s.barred, ?_, ?_⟩
    · rw [barredWith, if_neg hb]
      exact insertBy_perm id addr.toNat s.barred
    · rw [exec_dismissNode (s' := removeLostNode addr.toNat s) h (removeLostNode_window _ _) ?_, removeLostNode_eq _ hp]
      · rfl
      rw [requestDismissNode_lost (s := taken kindDismissNode tag [addr] s) h1 h30 hn hs,
        removeLostNode_eq (s := taken kindDismissNode tag [addr] s) _ hp, removeLostNode_eq _ hp]
      exact congrArg _ (PassesNotices.all (notify_taken kindDismissNode tag [addr]) _ (lostNodeGone addr.toNat s))

end Sys2Proof.Machine
end

section
/-! The round start (R45) in closed form. -/

set_option Elab.async false

namespace Sys2Proof.Machine

variable {s : State}

/-! ## Steps of a round start -/

/-- R47: the entries appended for other pipes do not change whether a pipe is eligible. -/
theorem pipeEligible_congr {p : Pipe} {u : State} (hn : u.nodes = s.nodes) (ht : u.txn = s.txn)
    (hd : DueEntry.pipe p.handle ∈ u.due ↔ DueEntry.pipe p.handle ∈ s.due) : pipeEligible p u = pipeEligible p s := by
  unfold pipeEligible findNode pipeInFlight
  refine decide_eq_decide.2 ?_
  rw [hn, ht, hd]

/-- R45 step 3: a pipe found is appended and reloaded where it is eligible. -/
theorem considerPipe_eq {done rest : List Pipe} {p : Pipe} (hs : s.pipes = done ++ p :: rest)
    (hn : ∀ q ∈ done, q.handle ≠ p.handle) : considerPipe p.handle s = { s with
      pipes := done ++ (if pipeEligible p s then { p with countdown := p.period } else p) :: rest
      due := s.due ++ if pipeEligible p s then [.pipe p.handle] else [] } := by
  have misses : ∀ q ∈ done, (q.handle == p.handle) = false := fun q hq => by simpa using hn q hq
  have found : findPipe p.handle s = some p := by
    rw [findPipe, hs]
    exact find_append misses (beq_self_eq_true _)
  rw [considerPipe, found]
  dsimp only
  by_cases he : pipeEligible p s = true
  · have absent : DueEntry.pipe p.handle ∉ s.due := by
      simp only [pipeEligible, decide_eq_true_eq] at he
      exact he.2.2.1
    have reloaded : updFirst (fun q : Pipe => q.handle == p.handle) (fun q => { q with countdown := p.period }) s.pipes =
        done ++ { p with countdown := p.period } :: rest := by
      rw [hs]
      exact updFirst_append misses (beq_self_eq_true _)
    rw [if_pos he, if_pos he, if_pos he, appendDue, if_neg absent, setCountdown, updPipe, reloaded]
  · rw [if_neg he, if_neg he, if_neg he, ← hs, List.append_nil]

/-- R45 step 3: all pipes, in handle order. -/
theorem forEach_considerPipe (rest done : List Pipe) (s : State) (hs : s.pipes = done ++ rest)
    (hn : (s.pipes.map (·.handle)).Nodup) : forEach considerPipe (rest.map (·.handle)) s = { s with
      pipes := done ++ rest.map fun p => if pipeEligible p s then { p with countdown := p.period } else p
      due := s.due ++ (rest.filter fun p => pipeEligible p s).map fun p => .pipe p.handle } := by
  induction rest generalizing done s with
  | nil =>
    simp only [List.map_nil, List.filter_nil, List.append_nil] at hs ⊢
    rw [← hs]
    rfl
  | cons p rest ih =>
    have keys := hn
    rw [hs, List.map_append, List.map_cons, List.nodup_append] at keys
    obtain ⟨_, hcons, hdisjoint⟩ := keys
    have later : ∀ q ∈ rest, q.handle ≠ p.handle := fun q hq he =>
      (List.nodup_cons.1 hcons).1 (he ▸ List.mem_map_of_mem hq)
    have earlier : ∀ q ∈ done, q.handle ≠ p.handle := fun q hq =>
      hdisjoint _ (List.mem_map_of_mem hq) _ (List.mem_cons_self ..)
    have first := considerPipe_eq hs earlier
    let p' : Pipe := if pipeEligible p s then { p with countdown := p.period } else p
    have hp' : p'.handle = p.handle := by
      show (if pipeEligible p s then { p with countdown := p.period } else p).handle = p.handle
      split <;> rfl
    have same : ∀ q ∈ rest, pipeEligible q (considerPipe p.handle s) = pipeEligible q s := fun q hq => by
      rw [first]
      refine pipeEligible_congr rfl rfl ?_
      have hne := later q hq
      split <;> simp [hne]
    have pipes : (considerPipe p.handle s).pipes = (done ++ [p']) ++ rest := by
      rw [first, List.append_assoc]
      rfl
    have keys' : ((considerPipe p.handle s).pipes.map (·.handle)).Nodup := by
      rw [pipes]
      rw [hs] at hn
      simpa [hp'] using hn
    have whole := ih (done ++ [p']) (considerPipe p.handle s) pipes keys'
    have mapped : (rest.map fun q => if pipeEligible q (considerPipe p.handle s) then { q with countdown := q.period } else q) =
        rest.map fun q => if pipeEligible q s then { q with countdown := q.period } else q :=
      List.map_congr_left fun q hq => by rw [same q hq]
    rw [mapped, List.filter_congr fun q hq => same q hq, first] at whole
    refine (congrArg (forEach considerPipe (rest.map (·.handle))) first).trans (whole.trans ?_)
    by_cases he : pipeEligible p s = true
    · simp [p', he]
    · simp [p', he]

/-- R48: the node is called by a RECALL entry as the recall countdown expires. -/
def recallCalls (n : Node) (s : State) : Bool :=
  decide (n.state = .lost) && decide (DueEntry.recall n.addr ∉ s.due) && !pingInFlight n.addr s

/-- R48: a node found is appended where it is LOST, has no entry and no PING in flight. -/
theorem appendRecall_eq {n : Node} (hn : findNode n.addr s = some n) :
    appendRecall n.addr s = { s with due := s.due ++ if recallCalls n s then [.recall n.addr] else [] } := by
  rw [appendRecall, hn]
  dsimp only
  by_cases hl : n.state = .lost ∧ pingInFlight n.addr s = false
  · by_cases hd : DueEntry.recall n.addr ∈ s.due
    · simp [hl, appendDue, recallCalls, hd]
    · simp [hl, appendDue, recallCalls, hd]
  · have hc : ¬recallCalls n s = true := fun hc => hl (by
      simp only [recallCalls, Bool.and_eq_true, decide_eq_true_eq, Bool.not_eq_true'] at hc
      exact ⟨hc.1.1, hc.2⟩)
    rw [if_neg hl, if_neg hc, List.append_nil]

/-- R48: all nodes, in address order. -/
theorem forEach_appendRecall (rest : List Node) (s : State) (hf : ∀ n ∈ rest, findNode n.addr s = some n)
    (hn : (rest.map (·.addr)).Nodup) : forEach appendRecall (rest.map (·.addr)) s =
      { s with due := s.due ++ (rest.filter fun n => recallCalls n s).map fun n => .recall n.addr } := by
  induction rest generalizing s with
  | nil =>
    simp only [List.map_nil, List.filter_nil, List.append_nil]
    rfl
  | cons n rest ih =>
    rw [List.map_cons, List.nodup_cons] at hn
    have first := appendRecall_eq (hf n (List.mem_cons_self ..))
    have same : ∀ m ∈ rest, recallCalls m (appendRecall n.addr s) = recallCalls m s := fun m hm => by
      have hne : m.addr ≠ n.addr := fun he => hn.1 (he ▸ List.mem_map_of_mem hm)
      have entry : DueEntry.recall m.addr ∈ (appendRecall n.addr s).due ↔ DueEntry.recall m.addr ∈ s.due := by
        rw [first]
        dsimp only
        split <;> simp [hne]
      have ping : pingInFlight m.addr (appendRecall n.addr s) = pingInFlight m.addr s := by
        rw [first]
        rfl
      simp only [recallCalls, entry, ping]
    have found : ∀ m ∈ rest, findNode m.addr (appendRecall n.addr s) = some m := fun m hm => by
      rw [first]
      exact hf m (List.mem_cons_of_mem _ hm)
    have whole := ih (appendRecall n.addr s) found hn.2
    rw [List.filter_congr fun m hm => same m hm, first] at whole
    refine (congrArg (forEach appendRecall (rest.map (·.addr))) first).trans (whole.trans ?_)
    by_cases hc : recallCalls n s = true <;> simp [hc]

/-- The node found at an address, where no two bear it. -/
theorem findNode_of_mem {n : Node} (hn : (s.nodes.map (·.addr)).Nodup) (hm : n ∈ s.nodes) : findNode n.addr s = some n := by
  obtain ⟨m, hf⟩ := Option.isSome_iff_exists.1 (List.find?_isSome (p := fun m : Node => m.addr == n.addr).2
    ⟨n, hm, beq_self_eq_true _⟩)
  exact List.inj_on_of_nodup_map hn (List.mem_of_find?_eq_some hf) hm (by simpa using List.find?_some hf) ▸ hf

/-- R45 step 5, R48: the recall countdown steps, or expires. -/
theorem stepRecall_eq (hn : (s.nodes.map (·.addr)).Nodup) : stepRecall s = { s with
    due := s.due ++ if s.recallCountdown ≤ 1 then
      (s.nodes.filter fun n => recallCalls n s).map (fun n => .recall n.addr) else []
    recallCountdown := if s.recallCountdown ≤ 1 then s.params.recallInterval else s.recallCountdown - 1 } := by
  by_cases h1 : s.recallCountdown ≤ 1
  · have h0 : s.recallCountdown - 1 = 0 := by omega
    rw [stepRecall, if_pos h0, recallExpiry, forEach_appendRecall s.nodes s (fun n hm => findNode_of_mem hn hm) hn,
      if_pos h1, if_pos h1]
  · have h0 : ¬s.recallCountdown - 1 = 0 := by omega
    rw [stepRecall, if_neg h0, if_neg h1, if_neg h1, List.append_nil]

/-- R45 step 4: the SIFT entry, where a sift is active and has none. -/
theorem siftAppended_eq (s : State) : (if siftActive s then appendDue .sift s else s) =
    { s with due := s.due ++ if s.sift.state ≠ .idle ∧ DueEntry.sift ∉ s.due then [.sift] else [] } := by
  by_cases ha : s.sift.state = .idle
  · rw [if_neg (by simpa [siftActive] using ha), if_neg fun h => h.1 ha, List.append_nil]
  · rw [if_pos (siftActive_iff.2 ha)]
    by_cases hd : DueEntry.sift ∈ s.due
    · rw [appendDue, if_pos hd, if_neg fun h => h.2 hd, List.append_nil]
    · rw [appendDue, if_neg hd, if_pos ⟨ha, hd⟩]

/-- R45: the pipe is eligible at the round start that is to come, its countdown decremented. -/
def eligibleAtRound (s : State) (p : Pipe) : Bool := pipeEligible { p with countdown := p.countdown - 1 } s

/-- R45: a round start, its five steps together. -/
theorem roundStep_eq (hp : (s.pipes.map (·.handle)).Nodup) (hn : (s.nodes.map (·.addr)).Nodup) : roundStep s = { s with
    counters := if s.due = [] then s.counters
      else { s.counters with roundOverruns := min (s.counters.roundOverruns + 1) 65535 }
    pipes := s.pipes.map fun p =>
      { p with countdown := if eligibleAtRound s p then p.period else p.countdown - 1 }
    due := s.due ++ (s.pipes.filter (eligibleAtRound s)).map (fun p => .pipe p.handle) ++
      (if s.sift.state ≠ .idle ∧ DueEntry.sift ∉ s.due then [.sift] else []) ++
      (if s.recallCountdown ≤ 1 then (s.nodes.filter fun n => recallCalls n s).map (fun n => .recall n.addr) else [])
    recallCountdown := if s.recallCountdown ≤ 1 then s.params.recallInterval else s.recallCountdown - 1 } := by
  let lower : Pipe → Pipe := fun p => { p with countdown := p.countdown - 1 }
  let counted : State := { s with
    counters := if s.due = [] then s.counters
      else { s.counters with roundOverruns := min (s.counters.roundOverruns + 1) 65535 }
    pipes := s.pipes.map lower }
  have first : decrementCountdowns (if s.due = [] then s else countOverrun s) = counted := by
    by_cases hd : s.due = [] <;> simp [counted, hd, decrementCountdowns, countOverrun, sat16, lower]
  have handles : counted.pipes.map (·.handle) = s.pipes.map (·.handle) := List.map_map ..
  have considered := forEach_considerPipe counted.pipes [] counted rfl (handles ▸ hp)
  have same : ∀ p, pipeEligible (lower p) counted = eligibleAtRound s p := fun p =>
    pipeEligible_congr (p := lower p) (s := s) rfl rfl Iff.rfl
  have pipes : (counted.pipes.map fun p => if pipeEligible p counted then { p with countdown := p.period } else p) =
      s.pipes.map fun p => { p with countdown := if eligibleAtRound s p then p.period else p.countdown - 1 } := by
    rw [List.map_map]
    refine List.map_congr_left fun p _ => ?_
    rw [Function.comp_apply, same]
    split <;> rfl
  have due : ((counted.pipes.filter fun p => pipeEligible p counted).map fun p => DueEntry.pipe p.handle) =
      (s.pipes.filter (eligibleAtRound s)).map fun p => .pipe p.handle := by
    rw [List.filter_map, List.map_map]
    exact congrArg (List.map _) (List.filter_congr fun p _ => same p)
  rw [pipes, due] at considered
  have siftEntry : ∀ ps : List Pipe, DueEntry.sift ∈ counted.due ++ ps.map (fun p => .pipe p.handle) ↔
      DueEntry.sift ∈ counted.due := fun ps => by simp
  have recallEntry : ∀ (a : Nat) (ps : List Pipe) (c : Prop) [Decidable c],
      DueEntry.recall a ∈ counted.due ++ ps.map (fun p => .pipe p.handle) ++ (if c then [.sift] else []) ↔
        DueEntry.recall a ∈ counted.due := fun a ps c _ => by split <;> simp
  unfold roundStep
  dsimp only
  rw [first, considered, siftAppended_eq, stepRecall_eq (by exact hn)]
  simp only [recallCalls, siftEntry, recallEntry]
  rfl

/-- R24, R44, R47: what makes a pipe eligible, read from its record and the state before the round start. -/
theorem pipeReadyForDue_lowered (p : Pipe) : pipeReadyForDue { p with countdown := p.countdown - 1 } =
    (decide (p.state = .clearing) || decide (p.state = .active) && decide (p.countdown ≤ 1) &&
      (match p.dir with
       | .inbound => decide (p.queue.length < p.quota)
       | .outbound => !p.queue.isEmpty)) := by
  have low : p.countdown - 1 = 0 ↔ p.countdown ≤ 1 := by omega
  have empty : p.queue.isEmpty = decide (p.queue = []) := by cases p.queue <;> rfl
  unfold pipeReadyForDue
  cases hs : p.state <;> cases hd : p.dir <;> simp [low, empty]

theorem eligibleAtRound_eq (s : State) (p : Pipe) : eligibleAtRound s p =
    (decide ((findNode p.node s).map (·.state) = some .enrolled) && !pipeInFlight p.handle s &&
      decide (DueEntry.pipe p.handle ∉ s.due) &&
      (decide (p.state = .clearing) || decide (p.state = .active) && decide (p.countdown ≤ 1) &&
        (match p.dir with
         | .inbound => decide (p.queue.length < p.quota)
         | .outbound => !p.queue.isEmpty))) := by
  rw [← pipeReadyForDue_lowered, eligibleAtRound, pipeEligible, Bool.eq_iff_iff]
  simp [and_assoc]

/-- Settles O30: the closed form of a round start, and the two commands that bring it about. -/
theorem roundStartDoesItsFiveSteps : Obligations.RoundStartDoesItsFiveSteps := by
  refine ⟨fun c s hc hr ht hp hn => ?round, fun s hr => ⟨fun ht => ⟨?still, ?stillRecall⟩, fun hcount => ?early⟩⟩
  case round =>
    have round : exec c s = .next (kickTx (roundStep s)) := by
      obtain rfl | ⟨rfl, hcount⟩ := hc
      · exact (live_high hr).trans (by rw [if_pos ht])
      · exact (live_high hr).trans (by rw [if_pos ⟨ht, hcount⟩])
    rw [round, roundStep_eq hp hn]
    rw [funext (eligibleAtRound_eq s)]
    simp only [decide_eq_true_eq]
    rfl
  case still => exact (live_high hr).trans (by rw [if_neg (ne_true_of_eq_false ht)])
  case stillRecall => exact (live_high hr).trans (by rw [if_neg fun h => ne_true_of_eq_false ht h.1])
  case early => exact (live_high hr).trans (by rw [if_neg fun h => Nat.not_le.2 hcount h.2])

end Sys2Proof.Machine
end

section
/-! The service of the due list (R53, R54), entry by entry. -/

set_option Elab.async false

namespace Sys2Proof.Machine

variable {s : State} {rest : List DueEntry} {p : Pipe} {n : Node}

/-- R53: while the line is free the head of the due list is served. -/
theorem exec_serveDueEntry {e : DueEntry} (hr : s.rstHigh = true) (hl : s.loop = .running) (he : s.engine = .idle)
    (hd : s.due = e :: rest) : exec .serveDueEntry s = .next (kickTx (serveEntry e { s with due := rest })) := by
  have free : lineFree s = true := decide_eq_true ⟨hl, he⟩
  exact (live_high hr).trans (by rw [serveHead, if_pos free, hd])

/-! ## PIPE entries -/

/-- R53: a CLEARING pipe is called with CLEAR. -/
theorem servePipe_clearing (hp : findPipe p.handle s = some p) (hs : p.state = .clearing) :
    servePipe p.handle s = startCall (pipeCall p .clear false [] s) s := by
  simp only [servePipe, hp, hs]

/-- R53: an ACTIVE IN pipe is called with FETCH. -/
theorem servePipe_inbound (hp : findPipe p.handle s = some p) (hs : p.state = .active) (hd : p.dir = .inbound) :
    servePipe p.handle s = serveFetch p s := by
  simp only [servePipe, hp, hs, hd]

/-- R53: an ACTIVE OUT pipe is called with DELIVER. -/
theorem servePipe_outbound (hp : findPipe p.handle s = some p) (hs : p.state = .active) (hd : p.dir = .outbound) :
    servePipe p.handle s = serveDeliver p s := by
  simp only [servePipe, hp, hs, hd]

/-- R53: the entry of a HALTED, FAULTED or CLOSING pipe is skipped (log 4). -/
theorem servePipe_skips (hp : findPipe p.handle s = some p) (hs : p.state = .halted ∨ p.state = .faulted ∨ p.state = .closing) :
    servePipe p.handle s = s := by
  obtain hs | hs | hs := hs <;> simp only [servePipe, hp, hs]

/-- R15: the catch claim is granted. -/
theorem serveFetch_claims {b : Block} {blocks : List Block} (hf : s.free = b :: blocks) : serveFetch p s =
    startCall (pipeCall p .fetch p.seq [] s) { s with free := blocks, catchSlot := some b } := by
  rw [serveFetch, hf]

/-- R54: the catch claim is refused. -/
theorem serveFetch_starved (hf : s.free = []) : serveFetch p s = fetchStarved p.handle s := by
  rw [serveFetch, hf]

/-- R17: the head of the queue is sent, marked. -/
theorem serveDeliver_sends {b : Block} {blocks : List Block} (hp : findPipe p.handle s = some p)
    (hq : p.queue = b :: blocks) : serveDeliver p s = startCall (pipeCall p .deliver p.seq b.payload s)
      (updPipe p.handle (fun q => { q with queue := { b with inFlight := true } :: blocks }) s) := by
  rw [serveDeliver, hq]
  refine congrArg (startCall _) (updPipe_congr hp ?_)
  rw [hq]
  rfl

/-- R54: an OUT pipe with an empty queue is skipped. -/
theorem serveDeliver_empty (hq : p.queue = []) : serveDeliver p s = s := by rw [serveDeliver, hq]

/-- Settles O31: the pipe's state and direction decide the call. -/
theorem pipeEntryIsServedByState : Obligations.PipeEntryIsServedByState := by
  intro p rest s hr hl he hd hp
  have served := exec_serveDueEntry hr hl he hd
  refine ⟨fun hs => ?clear, fun b blocks hs hdir hf => ?fetch, fun hs hdir hf => ?starved,
    fun b blocks hs hdir hq => ?deliver, fun hs => ?skips⟩
  case clear =>
    rw [served, serveEntry, servePipe_clearing (by exact hp) hs]
    rfl
  case fetch =>
    rw [served, serveEntry, servePipe_inbound (by exact hp) hs hdir, serveFetch_claims (by exact hf)]
    rfl
  case starved =>
    rw [served, serveEntry, servePipe_inbound (by exact hp) hs hdir, serveFetch_starved (by exact hf)]
    rfl
  case deliver =>
    rw [served, serveEntry, servePipe_outbound (by exact hp) hs hdir, serveDeliver_sends (by exact hp) hq]
    rfl
  case skips =>
    rw [served, serveEntry]
    obtain hs | hs | hs | ⟨hs, hdir, hq⟩ := hs
    · rw [servePipe_skips (by exact hp) (.inl hs)]
    · rw [servePipe_skips (by exact hp) (.inr (.inl hs))]
    · rw [servePipe_skips (by exact hp) (.inr (.inr hs))]
    · rw [servePipe_outbound (by exact hp) hs hdir, serveDeliver_empty hq]

/-! ## The other entries -/

/-- R63, R173: a call that concerns no pipe carries PIPE-SEQ 0. -/
theorem startCall_nodeCall (entry : DueEntry) (call : CallKind) (addr from_ : Nat) (payload : List Byte)
    (identity : Option Ident) (probed : Option Prefix) (s u : State) :
    startCall (nodeCall entry call addr from_ payload identity probed s) u = { u with
      engine := .calling
      txn := some ⟨entry, call, addr, from_, 0, false, payload, identity, probed, s.params.replyWindow, .nothing, none⟩
      loopTx := some ⟨typeOfCall call, byteOf addr, 0x00, payload⟩ } := by
  have noPipe : pipeSeqByte 0 false = 0x00 := by decide
  rw [← noPipe]
  rfl

/-- R92: a LOST node is called with PING. -/
theorem serveRecall_lost (hn : findNode n.addr s = some n) (hs : n.state = .lost) : serveRecall n.addr s =
    startCall (nodeCall (.recall n.addr) .ping n.addr n.addr [] (some n.identity) none s) s := by
  rw [serveRecall, hn]
  exact if_pos hs

/-- R98: a DISMISSING node is called with DISMISS. -/
theorem serveDismiss_dismissing (hn : findNode n.addr s = some n) (hs : n.state = .dismissing) : serveDismiss n.addr s =
    startCall (nodeCall (.dismiss n.addr) .dismiss n.addr n.addr [] none none s) s := by
  rw [serveDismiss, hn]
  exact if_pos hs

/-- R108, R109: the top of the stack is popped and probed. -/
theorem serveProbe_pops {q : Prefix} {stack : List Prefix} (hk : s.sift.stack = q :: stack) : serveProbe s =
    startCall (nodeCall .sift .probe 0 0 (byteOf q.len :: bytesOfIdent q.bits) none (some q) s)
      { s with sift := { s.sift with stack := stack } } := by
  rw [serveProbe, hk]
  rfl

/-- R108: with an empty stack nothing is probed. -/
theorem serveProbe_empty (hk : s.sift.stack = []) : serveProbe s = s := by rw [serveProbe, hk]

/-- R108: the unit in PROBING. -/
theorem serveSift_probing (hs : s.sift.state = .probing) : serveSift s = serveProbe s := by rw [serveSift, hs]

/-- R108, R115: the unit in ASSIGNING, by whether the held assignment has lost its record. -/
theorem serveSift_assigning {hd : Held} (hs : s.sift.state = .assigning) (hh : s.sift.held = some hd) :
    serveSift s = if heldGone hd s then serveProbe (heldReleased s) else serveAssign hd s := by
  rw [serveSift, hs, hh, dropHeld_eq]

/-- R115: the record of a held READOPT is gone. -/
theorem heldGone_of_gone {hd : Held} (hk : hd.kind = .readopt)
    (hn : ∀ m ∈ s.nodes, m.addr = hd.addr → m.identity ≠ hd.identity) : heldGone hd s = true := by
  refine decide_eq_true ⟨hk, List.find?_eq_none.2 fun m hm => ?_⟩
  simpa using hn m hm

/-- R115: a held NEW has none to lose, and that of a READOPT may still stand. -/
theorem heldGone_of_stands {hd : Held}
    (hn : hd.kind = .new ∨ ∃ m ∈ s.nodes, m.addr = hd.addr ∧ m.identity = hd.identity) : heldGone hd s = false := by
  refine decide_eq_false fun h => ?_
  obtain ⟨hk, hr⟩ := h
  obtain hk' | ⟨m, hm, ha, hi⟩ := hn
  · rw [hk'] at hk
    nomatch hk
  · have := List.find?_eq_none.1 hr m hm
    simp [ha, hi] at this

/-- R115: with an empty stack the release ends the sift. -/
theorem heldReleased_empty (hk : s.sift.stack = []) : (heldReleased s).sift.stack = [] := by
  have ends : heldReleased s = siftEnded .ok { s with sift := { s.sift with unassigned := min (s.sift.unassigned + 1) 255 } } :=
    if_pos hk
  obtain ⟨_, _, _, _, he⟩ := answerDeferred_touches .sift .ok _ _
  rw [ends, siftEnded, he]

/-- R115: with one left the search goes on. -/
theorem heldReleased_goesOn (hk : s.sift.stack ≠ []) : heldReleased s = { s with
    sift := { s.sift with state := .probing, held := none, unassigned := min (s.sift.unassigned + 1) 255 } } := if_neg hk

/-- Settles O32: the entry, the node's or the unit's state, and for a held assignment whether its record stands. -/
theorem nodeAndSiftEntriesAreServed : Obligations.NodeAndSiftEntriesAreServed := by
  intro n p stack hd rest s hr
  refine ⟨fun hf => ?busy, fun hl he => ⟨fun hd' hn hs => ?recall_, fun hd' hn hs => ?dismiss, fun hd' hs hk => ?probe,
    fun hd' hs hh hn => ?assign, fun hd' hs hh hkind hn => ⟨fun hk => ?ends, fun hk => ?goesOn⟩⟩⟩
  case busy =>
    have busy : ¬lineFree s = true := fun h => by
      simp only [lineFree, decide_eq_true_eq] at h
      exact hf.elim (· h.1) (· h.2)
    exact (live_high hr).trans (by rw [serveHead, if_neg busy])
  case recall_ =>
    rw [exec_serveDueEntry hr hl he hd', serveEntry, serveRecall_lost (by exact hn) hs, startCall_nodeCall]
    rfl
  case dismiss =>
    rw [exec_serveDueEntry hr hl he hd', serveEntry, serveDismiss_dismissing (by exact hn) hs, startCall_nodeCall]
    rfl
  case probe =>
    rw [exec_serveDueEntry hr hl he hd', serveEntry, serveSift_probing (by exact hs), serveProbe_pops (by exact hk),
      startCall_nodeCall]
    rfl
  case assign =>
    rw [exec_serveDueEntry hr hl he hd', serveEntry, serveSift_assigning (by exact hs) (by exact hh),
      if_neg (by exact ne_true_of_eq_false (heldGone_of_stands hn)), serveAssign, startCall_nodeCall]
    rfl
  case ends =>
    rw [exec_serveDueEntry hr hl he hd', serveEntry, serveSift_assigning (by exact hs) (by exact hh),
      if_pos (by exact heldGone_of_gone hkind hn), serveProbe_empty (heldReleased_empty (by exact hk))]
  case goesOn =>
    have left : s.sift.stack ≠ [] := by simp [hk]
    rw [exec_serveDueEntry hr hl he hd', serveEntry, serveSift_assigning (by exact hs) (by exact hh),
      if_pos (by exact heldGone_of_gone hkind hn), heldReleased_goesOn (by exact left), serveProbe_pops (by exact hk),
      startCall_nodeCall]
    rfl

end Sys2Proof.Machine
end

section
/-! The end of a transaction on a pipe (R66, R78): what each owner leaves, and the two ends without an answer. -/

set_option Elab.async false

namespace Sys2Proof.Machine

variable {s u : State} {p q : Pipe} {n : Node} {t : Transaction} {call : CallKind} {a : Nat}

/-! ## Records of pipes and nodes -/

/-- Two changes of a pipe's record are one. -/
theorem updPipe_updPipe {f g : Pipe → Pipe} (h : Nat) (s : State) (hf : ∀ q, (f q).handle = q.handle) :
    updPipe h g (updPipe h f s) = updPipe h (fun q => g (f q)) s := by
  have merged := updFirst_updFirst (hit := fun q : Pipe => q.handle == h) (f := f) (g := g)
    (fun q hq => by simpa [hf] using hq) s.pipes
  exact congrArg (fun pipes => { s with pipes := pipes }) merged

/-- Two changes of a node's record are one. -/
theorem updNode_updNode {f g : Node → Node} (a : Nat) (s : State) (hf : ∀ m, (f m).addr = m.addr) :
    updNode a g (updNode a f s) = updNode a (fun m => g (f m)) s := by
  have merged := updFirst_updFirst (hit := fun m : Node => m.addr == a) (f := f) (g := g)
    (fun m hm => by simpa [hf] using hm) s.nodes
  exact congrArg (fun nodes => { s with nodes := nodes }) merged

/-- A node's update reads that node's record alone. -/
theorem updNode_congr {a : Nat} {f g : Node → Node} (hn : findNode a s = some n) (hfg : f n = g n) :
    updNode a f s = updNode a g s := by
  rw [updNode, updNode, updFirst_congr hn hfg]

/-- A node's record is found after its update. -/
theorem findNode_updNode {a : Nat} {f : Node → Node} (hf : ∀ m, (f m).addr = m.addr) (hn : findNode a s = some n) :
    findNode a (updNode a f s) = some (f n) := by
  unfold findNode updNode at *
  dsimp only
  rw [find_updFirst (by intro x hx; simpa [hf] using hx), hn]
  rfl

/-- An update that keeps what a list is chosen by keeps the list. -/
theorem filter_map_updFirst {α β : Type} {hit keep : α → Bool} {f : α → α} {key : α → β} (hk : ∀ x, keep (f x) = keep x)
    (hf : ∀ x, key (f x) = key x) (xs : List α) :
    ((updFirst hit f xs).filter keep).map key = (xs.filter keep).map key := by
  induction xs with
  | nil => rfl
  | cons x xs ih =>
    by_cases hx : hit x = true
    · by_cases hkx : keep x = true <;> simp [updFirst, hx, hk, hf, hkx]
    · by_cases hkx : keep x = true <;> simp [updFirst, hx, hkx, ih]

/-- A change of a pipe's record is no change of the notices. -/
theorem passesNotices_updPipe (h : Nat) (f : Pipe → Pipe) : PassesNotices (updPipe h f) :=
  passesNotices (fun _ => rfl) fun _ _ _ _ => rfl

theorem passesNotices_updNode (a : Nat) (f : Node → Node) : PassesNotices (updNode a f) :=
  passesNotices (fun _ => rfl) fun _ _ _ _ => rfl

/-! ## The block goes back -/

/-- R16: the catch block goes to the free-list tail. -/
theorem catchToFree_eq (s : State) :
    catchToFree s = { s with free := s.free ++ s.catchSlot.toList.map Block.release, catchSlot := none } := by
  unfold catchToFree freeBlocks
  cases hc : s.catchSlot with
  | none =>
    simp only [Option.toList_none, List.map_nil, List.append_nil]
    rw [← hc]
  | some b => rfl

/-- R16, R17: a transaction that moved no data gives its block back. -/
theorem settleBlock_returned {e : TxnEnd} (ha : e ≠ .accepted) (ht : e ≠ .taken) (s : State) :
    settleBlock p.handle call e s = blockReturned p call s := by
  cases call with
  | fetch => exact (if_neg ha).trans (catchToFree_eq s)
  | deliver => exact if_neg ht
  | clear => rfl
  | ping => rfl
  | dismiss => rfl
  | probe => rfl
  | assign => rfl

/-- R17: the pipe's record once the block is back. -/
def returnedPipe (p : Pipe) (call : CallKind) : Pipe :=
  if call = .deliver then { p with queue := markHead false p.queue } else p

theorem findPipe_blockReturned (hp : findPipe p.handle s = some p) :
    findPipe p.handle (blockReturned p call s) = some (returnedPipe p call) := by
  cases call with
  | deliver => exact findPipe_updPipe (fun _ => rfl) hp
  | fetch => exact hp
  | clear => exact hp
  | ping => exact hp
  | dismiss => exact hp
  | probe => exact hp
  | assign => exact hp

/-- R17: what but the mark of its head the record keeps. -/
theorem returnedPipe_keeps (p : Pipe) (call : CallKind) : (returnedPipe p call).state = p.state ∧
    (returnedPipe p call).tries = p.tries ∧ (returnedPipe p call).node = p.node := by
  unfold returnedPipe
  split <;> exact ⟨rfl, rfl, rfl⟩

/-- R18: a discarded queue's marks are gone. -/
theorem closed_markHead (h : Nat) (queue : List Block) (s : State) :
    closed h (markHead false queue) s = closed h queue s := by
  cases queue with
  | nil => rfl
  | cons b rest => rfl

theorem closed_returnedPipe (h : Nat) (p : Pipe) (call : CallKind) (s : State) :
    closed h (returnedPipe p call).queue s = closed h p.queue s := by
  unfold returnedPipe
  split
  · exact closed_markHead h p.queue s
  · rfl

/-- R16, R17: what the return of the block leaves as it was. -/
theorem blockReturned_keeps (p : Pipe) (call : CallKind) (s : State) :
    (blockReturned p call s).nodes = s.nodes ∧ (blockReturned p call s).due = s.due ∧
      (blockReturned p call s).params = s.params ∧ (blockReturned p call s).loop = s.loop ∧
      ∀ a, handlesOf a (blockReturned p call s) = handlesOf a s := by
  cases call with
  | deliver => exact ⟨rfl, rfl, rfl, rfl, fun a => filter_map_updFirst
    (f := fun q : Pipe => { q with queue := markHead false q.queue }) (key := (·.handle)) (fun _ => rfl) (fun _ => rfl) _⟩
  | fetch => exact ⟨rfl, rfl, rfl, rfl, fun _ => rfl⟩
  | clear => exact ⟨rfl, rfl, rfl, rfl, fun _ => rfl⟩
  | ping => exact ⟨rfl, rfl, rfl, rfl, fun _ => rfl⟩
  | dismiss => exact ⟨rfl, rfl, rfl, rfl, fun _ => rfl⟩
  | probe => exact ⟨rfl, rfl, rfl, rfl, fun _ => rfl⟩
  | assign => exact ⟨rfl, rfl, rfl, rfl, fun _ => rfl⟩

/-! ## The reports -/

/-- R68: an unanswered call is counted. -/
theorem countOutcome_unanswered (hc : call ≠ .probe) (s : State) : countOutcome call .unanswered s = { s with
    counters := { s.counters with callsUnanswered := min (s.counters.callsUnanswered + 1) 65535 } } := if_neg hc

/-- R68: a garbled answer is counted. -/
theorem countOutcome_garbled (hc : call ≠ .probe) (s : State) : countOutcome call .garbled s = { s with
    counters := { s.counters with answersGarbled := min (s.counters.answersGarbled + 1) 65535 } } := if_neg hc

/-- R68: no other end is counted. -/
theorem countOutcome_other {e : TxnEnd} (hu : e ≠ .unanswered) (hg : e ≠ .garbled) (s : State) :
    countOutcome call e s = s := by
  unfold countOutcome
  rw [if_neg hu, if_neg hg, ite_self]

/-- R66: the end of a call on a pipe is the pool's, the Node Table's and the Pipe Table's to settle. -/
theorem reportEnd_pipe {e : TxnEnd} (hc : CallOn p call t) (s : State) :
    reportEnd t e s = endPipeTxn p.handle call e (countOutcome call e s) := by
  obtain ⟨he, hcall, -, -⟩ := hc
  rw [reportEnd, he, hcall]

/-- R37, R66: the owners of an ended call on a pipe, in order. -/
theorem endPipeTxn_eq {e : TxnEnd} (hp : findPipe p.handle s = some p) : endPipeTxn p.handle call e s =
    if p.state = .closing then completeClose p.handle (settleSilence p.node e (settleBlock p.handle call e s))
    else settlePipe p.handle call e (e = .unanswered ∧ noneLosesNode p.node s = true)
      (settleSilence p.node e (settleBlock p.handle call e s)) := by
  rw [endPipeTxn, hp]

/-- R90: the silence count is settled without a look at the pipes. -/
theorem settleSilence_pipes (a : Nat) (e : TxnEnd) (s : State) : (settleSilence a e s).pipes = s.pipes := by
  cases e with
  | unanswered =>
    show (nodeUnanswered a s).pipes = s.pipes
    unfold nodeUnanswered
    split
    · exact notify_pipes _ _
    · rfl
  | _ => rfl

/-- R37: where the block goes back the close of the pipe discards its queue. -/
theorem completeClose_returned (hp : findPipe p.handle s = some p) (e : TxnEnd) :
    completeClose p.handle (settleSilence p.node e (blockReturned p call s)) =
      closed p.handle p.queue (settleSilence p.node e (blockReturned p call s)) := by
  have found : findPipe p.handle (settleSilence p.node e (blockReturned p call s)) = some (returnedPipe p call) := by
    rw [findPipe, settleSilence_pipes]
    exact findPipe_blockReturned hp
  rw [completeClose_eq found, closed_returnedPipe]

/-- R66: the end of a call on a pipe in which no data moved. -/
theorem endPipeTxn_returned {e : TxnEnd} (ha : e ≠ .accepted) (ht : e ≠ .taken) (hp : findPipe p.handle s = some p) :
    endPipeTxn p.handle call e s =
      if p.state = .closing then closed p.handle p.queue (settleSilence p.node e (blockReturned p call s))
      else settlePipe p.handle call e (e = .unanswered ∧ noneLosesNode p.node s = true)
        (settleSilence p.node e (blockReturned p call s)) := by
  rw [endPipeTxn_eq hp, settleBlock_returned ha ht, completeClose_returned hp]

/-! ## Failed tries -/

/-- R28: below the try limit a failed try is retried, where the loop runs and the pipe's node is ENROLLED. -/
theorem pipeFailedTry_retries {garbled : Bool} {h : Nat} {due : List DueEntry} {again : Prop} [Decidable again]
    (hp : findPipe h s = some q) (hl : q.tries + 1 < s.params.tryLimit) (hdue : s.due = due) (hd : .pipe h ∉ due)
    (hagain : s.loop = .running ∧ (findNode q.node s).map (·.state) = some .enrolled ↔ again) :
    pipeFailedTry h garbled s = updPipe h (fun r => { r with tries := r.tries + 1 })
      { s with due := due ++ if again then [.pipe h] else [] } := by
  subst hdue
  rw [pipeFailedTry, hp]
  dsimp only
  rw [if_pos hl]
  have allowed : retryAllowed q (updPipe h (fun r => { r with tries := r.tries + 1 }) s) = true ↔ again :=
    decide_eq_true_iff.trans hagain
  by_cases hr : again
  · rw [if_pos (allowed.2 hr), if_pos hr, appendDue, if_neg (by exact hd)]
    rfl
  · rw [if_neg (mt allowed.1 hr), if_neg hr, List.append_nil]

/-- R30: at the try limit the pipe is FAULTED. -/
theorem pipeFailedTry_faults {garbled : Bool} {h : Nat} (hp : findPipe h s = some q)
    (hl : s.params.tryLimit ≤ q.tries + 1) : pipeFailedTry h garbled s = notify (.pipeFaulted h garbled)
      (updPipe h (fun r => { r with
        state := .faulted, tries := 0, clearNeeded := if q.state = .clearing then true else r.clearNeeded }) s) := by
  rw [pipeFailedTry, hp]
  dsimp only
  rw [if_neg (Nat.not_lt.2 hl)]
  exact congrArg (notify _) (updPipe_congr hp rfl)

/-! ## Silence -/

/-- R29, R91: a node is lost where its count comes to the limit. -/
theorem noneLosesNode_iff (hn : findNode a s = some n) : noneLosesNode a s = true ↔
    n.state = .enrolled ∧ s.params.lossLimit ≤ min (n.silence + 1) 32 := by
  rw [noneLosesNode, hn]
  exact decide_eq_true_iff

/-- R90: below the loss limit the silence count rises. -/
theorem nodeUnanswered_stays (hn : findNode a s = some n)
    (hl : ¬(n.state = .enrolled ∧ s.params.lossLimit ≤ min (n.silence + 1) 32)) :
    nodeUnanswered a s = updNode a (fun m => { m with silence := min (n.silence + 1) 32 }) s := by
  rw [nodeUnanswered, if_neg (mt (noneLosesNode_iff hn).1 hl)]
  exact updNode_congr hn rfl

/-- R91, R99: a node whose silence has been settled is LOST and its pipes' entries leave the due list. -/
theorem loseNode_silent (a k : Nat) (s : State) : loseNode a (updNode a (fun m => { m with silence := k }) s) =
    notify (.nodeLost a) (updNode a (fun m => { m with silence := k, state := .lost, dismissTries := 0 })
      { s with due := s.due.filter fun e => e ∉ (handlesOf a s).map DueEntry.pipe }) := by
  rw [loseNode, updNode_updNode (f := fun m : Node => { m with silence := k }) (hf := fun _ => rfl)]
  rfl

/-- R91: at the loss limit the node is LOST. -/
theorem nodeUnanswered_loses (hn : findNode a s = some n)
    (hl : n.state = .enrolled ∧ s.params.lossLimit ≤ min (n.silence + 1) 32) :
    nodeUnanswered a s = notify (.nodeLost a)
      (updNode a (fun m => { m with silence := min (n.silence + 1) 32, state := .lost, dismissTries := 0 })
        { s with due := s.due.filter fun e => e ∉ (handlesOf a s).map DueEntry.pipe }) := by
  have raised : raiseSilence a s = updNode a (fun m => { m with silence := min (n.silence + 1) 32 }) s :=
    updNode_congr hn rfl
  rw [nodeUnanswered, if_pos ((noneLosesNode_iff hn).2 hl), raised, loseNode_silent]

/-! ## The calls left unanswered -/

/-- R68: a call on a pipe is no PROBE. -/
theorem pipeCall_ne_probe (hk : call = .fetch ∨ call = .deliver ∨ call = .clear) : call ≠ .probe := by
  obtain rfl | rfl | rfl := hk <;> exact nofun

/-- R64, R66: the window runs out with nothing heard. -/
theorem exec_replyWindowExpiry (hr : s.rstHigh = true) (he : s.engine = .awaiting) (ht : s.txn = some t)
    (hh : t.heard = .nothing) :
    exec .replyWindowExpiry s = .next (kickTx (settled (reportEnd t .unanswered (txnOver s)))) := by
  have expires : windowExpired s = endTxn .unanswered s := by
    rw [windowExpired, he, ht]
    exact if_pos hh
  exact (live_high hr).trans (congrArg (fun u => Host.Outcome.next (kickTx u)) (expires.trans (endTxn_eq ht _)))

/-- R28, R29, R37: an unanswered call on a pipe, by the node's silence with the block back. -/
theorem endPipeTxn_unanswered (hp : findPipe p.handle s = some p) (hn : findNode p.node s = some n) :
    endPipeTxn p.handle call .unanswered s =
      if p.state = .closing then closed p.handle p.queue (nodeUnanswered p.node (blockReturned p call s))
      else if n.state = .enrolled ∧ s.params.lossLimit ≤ min (n.silence + 1) 32 then
        pipeTriesCleared p.handle (nodeUnanswered p.node (blockReturned p call s))
      else pipeFailedTry p.handle false (nodeUnanswered p.node (blockReturned p call s)) := by
  rw [endPipeTxn_returned (by decide) (by decide) hp]
  by_cases hl : n.state = .enrolled ∧ s.params.lossLimit ≤ min (n.silence + 1) 32
  · rw [if_pos hl, decide_eq_true ⟨rfl, (noneLosesNode_iff hn).2 hl⟩]
    rfl
  · rw [if_neg hl, decide_eq_false fun h => hl ((noneLosesNode_iff hn).1 h.2)]
    rfl

/-- Settles O34: the silence comes first, and then the pipe by what it came to. -/
theorem unansweredPipeCall : Obligations.UnansweredPipeCall := by
  intro p n call t s hr he ht hh hc hkind hp hn silence u silent lost loses
  obtain ⟨hnodes, hdue, hparams, hloop, hhandles⟩ := blockReturned_keeps p call { txnOver s with
    counters := { s.counters with callsUnanswered := min (s.counters.callsUnanswered + 1) 65535 } }
  have hnu : findNode p.node u = some n := by
    rw [findNode, hnodes]
    exact hn
  have hlu : (n.state = .enrolled ∧ u.params.lossLimit ≤ min (n.silence + 1) 32) ↔ loses := by
    rw [hparams]
    exact Iff.rfl
  have ended : exec .replyWindowExpiry s = .next (kickTx (settled
      (if p.state = .closing then closed p.handle p.queue (nodeUnanswered p.node u)
      else if loses then pipeTriesCleared p.handle (nodeUnanswered p.node u)
      else pipeFailedTry p.handle false (nodeUnanswered p.node u)))) := by
    rw [exec_replyWindowExpiry hr he ht hh, reportEnd_pipe hc, countOutcome_unanswered (pipeCall_ne_probe hkind),
      endPipeTxn_unanswered (by exact hp) (by exact hn)]
    rfl
  have goes : loses → nodeUnanswered p.node u = notify (.nodeLost p.node) lost := by
    intro hl
    rw [nodeUnanswered_loses hnu (hlu.2 hl), hdue, hhandles, handlesOf, List.map_map]
    rfl
  have stays : ¬loses → nodeUnanswered p.node u = silent u := fun hl => nodeUnanswered_stays hnu (mt hlu.1 hl)
  have foundSilent : findPipe p.handle (silent u) = some (returnedPipe p call) := findPipe_blockReturned (by exact hp)
  have nodeSilent : findNode p.node (silent u) = some { n with silence := silence } :=
    findNode_updNode (fun _ => rfl) hnu
  have dueSilent : (silent u).due = s.due := hdue
  have loopSilent : (silent u).loop = s.loop := hloop
  obtain ⟨hstate, htries, hnode⟩ := returnedPipe_keeps p call
  refine ⟨fun hp' hl => ?lost, fun hp' hl ht' hd => ?retry, fun hp' hl ht' => ?faulted, fun hp' hl => ?closedLost,
    fun hp' hl => ?closedSilent⟩
  case lost => rw [ended, if_neg hp', if_pos hl, goes hl, pipeTriesCleared, passesNotices_updPipe]
  case retry =>
    rw [ended, if_neg hp', if_neg hl, stays hl, pipeFailedTry_retries (again := s.loop = .running ∧ n.state = .enrolled)
      foundSilent (by rw [htries]; exact hparams ▸ ht') dueSilent hd
      (by rw [hnode, nodeSilent, loopSilent, Option.map_some, Option.some_inj])]
    rfl
  case faulted =>
    rw [ended, if_neg hp', if_neg hl, stays hl, pipeFailedTry_faults foundSilent
      (by rw [htries]; exact hparams ▸ ht'), hstate]
  case closedLost => rw [ended, if_pos hp', goes hl]
  case closedSilent => rw [ended, if_pos hp', stays hl]

/-! ## The calls answered with nothing acceptable -/

/-- R7: what is heard of an answer can change the catch block alone, and draw from the free values. -/
theorem storeHeard_keeps (t : Transaction) (rx : LoopRx) (s : State) :
    ∃ slot draws, storeHeard t rx s = { s with catchSlot := slot, draws := draws } := by
  rw [storeHeard_eq]
  split
  · exact ⟨_, _, rfl⟩
  · exact ⟨_, _, rfl⟩

theorem cutOff_keeps (t : Transaction) (s : State) :
    ∃ slot draws, cutOff t s = { s with catchSlot := slot, draws := draws } := by
  unfold cutOff
  split
  · exact ⟨_, _, rfl⟩
  · exact ⟨_, _, rfl⟩

/-- R65: what was heard, with no VALID answer in it, is followed by quiet. -/
theorem exec_garbledSettled {rx : LoopRx} (hr : s.rstHigh = true) (he : s.engine = .awaiting) (ht : s.txn = some t)
    (hv : t.heard = .unacceptable ∨ (readLoop rx).bind (classify t) = none) (hh : somethingHeard t rx = true) :
    exec (.garbledSettled rx) s = .next (kickTx (settled (reportEnd t .garbled (txnOver (storeHeard t rx s))))) := by
  have none : validAnswer t rx = none := by
    unfold validAnswer
    obtain h | h := hv
    · exact if_pos h
    · rw [h, ite_self]
  have still : (storeHeard t rx s).txn = some t := by
    obtain ⟨slot, draws, hk⟩ := storeHeard_keeps t rx s
    rw [hk]
    exact ht
  have ends : quietAfter rx s = endTxn .garbled (storeHeard t rx s) := by
    rw [quietAfter, he, ht]
    dsimp only
    rw [none]
    exact if_pos hh
  exact (live_high hr).trans (congrArg (fun u => Host.Outcome.next (kickTx u)) (ends.trans (endTxn_eq still _)))

/-- R64: 2100 µs after activity began the answer is cut off. -/
theorem exec_garbleLimitExpiry (hr : s.rstHigh = true) (he : s.engine = .awaiting) (ht : s.txn = some t)
    (hh : t.heard ≠ .nothing) :
    exec .garbleLimitExpiry s = .next (kickTx (settled (reportEnd t .garbled (txnOver (cutOff t s))))) := by
  have still : (cutOff t s).txn = some t := by
    obtain ⟨slot, draws, hk⟩ := cutOff_keeps t s
    rw [hk]
    exact ht
  have ends : garbleLimit s = endTxn .garbled (cutOff t s) := by
    rw [garbleLimit, he, ht]
    exact if_neg hh
  exact (live_high hr).trans (congrArg (fun u => Host.Outcome.next (kickTx u)) (ends.trans (endTxn_eq still _)))

/-- R7: an answer already found unacceptable writes nothing more. -/
theorem storeHeard_unacceptable {rx : LoopRx} (hh : t.heard = .unacceptable) : storeHeard t rx s = s :=
  (storeHeard_eq t rx s).trans (if_neg fun h => h.2.1 hh)

theorem cutOff_unacceptable (hh : t.heard = .unacceptable) : cutOff t s = s :=
  if_neg fun h => absurd h.2 (by rw [hh]; exact nofun)

/-- R28, R37: a garbled answer on a pipe leaves the node's silence as it was. -/
theorem endPipeTxn_garbled (hp : findPipe p.handle s = some p) : endPipeTxn p.handle call .garbled s =
    if p.state = .closing then closed p.handle p.queue (blockReturned p call s)
    else pipeFailedTry p.handle true (blockReturned p call s) :=
  endPipeTxn_returned (by decide) (by decide) hp

/-- Settles O35: each way the answer can end leaves a change of the catch block, and then the try has failed. -/
theorem garbledPipeCall : Obligations.GarbledPipeCall := by
  intro p call t rx c s heard hr he ht hc hkind hp hways u
  have hcall : t.call = call := hc.2.1
  have ends : exec c s = .next (kickTx (settled (reportEnd t .garbled (txnOver heard)))) ∧
      ∃ slot draws, heard = { s with catchSlot := slot, draws := draws } := by
    obtain ⟨hcmd, hh, rfl⟩ | ⟨rfl, hh, hs, hv, hheard⟩ | ⟨rfl, hh, rfl⟩ := hways
    · refine ⟨?_, heard.catchSlot, heard.draws, rfl⟩
      obtain rfl | rfl := hcmd
      · rw [exec_garbledSettled hr he ht (.inl hh) (decide_eq_true (.inl (by rw [hh]; exact nofun))),
          storeHeard_unacceptable hh]
      · rw [exec_garbleLimitExpiry hr he ht (by rw [hh]; exact nofun), cutOff_unacceptable hh]
    · have stored : storeHeard t rx s = heard := by
        rw [hheard, storeHeard_eq, hcall]
        exact if_congr (by simp [hh]) rfl rfl
      refine ⟨?_, stored ▸ storeHeard_keeps t rx s⟩
      rw [exec_garbledSettled hr he ht (.inr hv) (decide_eq_true (hs.imp_left fun h => by rw [h]; exact nofun)), stored]
    · exact ⟨exec_garbleLimitExpiry hr he ht (by rw [hh]; exact nofun), cutOff_keeps t s⟩
  obtain ⟨runs, slot, draws, rfl⟩ := ends
  have ended : exec c s = .next (kickTx (settled (if p.state = .closing then closed p.handle p.queue u
      else pipeFailedTry p.handle true u))) := by
    rw [runs, reportEnd_pipe hc, countOutcome_garbled (pipeCall_ne_probe hkind), endPipeTxn_garbled (by exact hp)]
    rfl
  obtain ⟨hnodes, hdue, hparams, hloop, -⟩ := blockReturned_keeps p call { txnOver { s with
    catchSlot := slot, draws := draws } with
      counters := { s.counters with answersGarbled := min (s.counters.answersGarbled + 1) 65535 } }
  have found : findPipe p.handle u = some (returnedPipe p call) := findPipe_blockReturned (by exact hp)
  obtain ⟨hstate, htries, hnode⟩ := returnedPipe_keeps p call
  refine ⟨fun hp' ht' hd => ?retry, fun hp' ht' => ?faulted, fun hp' => ?closes⟩
  case retry =>
    have node : findNode p.node u = findNode p.node s := congrArg (List.find? _) hnodes
    rw [ended, if_neg hp', pipeFailedTry_retries
      (again := s.loop = .running ∧ (findNode p.node s).map (·.state) = some .enrolled)
      found (by rw [htries]; exact hparams ▸ ht') hdue hd (by rw [hnode, node, hloop]; exact Iff.rfl)]
    rfl
  case faulted =>
    rw [ended, if_neg hp', pipeFailedTry_faults found (by rw [htries]; exact hparams ▸ ht'), hstate]
  case closes => rw [ended, if_pos hp']

end Sys2Proof.Machine
end

section
/-! The answers of a node (R65, R92, R98, R109, R112): which call takes which, and what a VALID one settles. -/

set_option Elab.async false

namespace Sys2Proof.Machine

variable {s u : State} {p q : Pipe} {n : Node} {t : Transaction} {call : CallKind} {addr pipeSeq : Byte} {payload : List Byte}

/-! ## Classification, by the type of the answer -/

/-- R65: the address and pipe checks of an answer. -/
theorem fromCalled_iff {type : Byte} :
    fromCalled t ⟨type, addr, pipeSeq, payload⟩ = true ↔ AnswersFrom t addr pipeSeq := decide_eq_true_iff

/-- R69, R74, R77, R92, R98, R109, R112: the types of answer each call takes. -/
def answerTypes : CallKind → List Byte
  | .fetch => [typeData, typeHold, typeRefuse]
  | .deliver => [typeTaken, typeHold, typeRefuse]
  | .clear => [typeCleared, typeRefuse]
  | .ping => [typePresent]
  | .dismiss => [typeDismissed]
  | .probe => [typeIdent]
  | .assign => [typeAdopted]

/-- R65: an answer of another type is unacceptable. -/
theorem classify_type {f : LoopFrame} (h : f.type ∉ answerTypes t.call) : classify t f = none := by
  unfold classify
  cases hc : t.call with
  | fetch =>
    simp only [hc, answerTypes, List.mem_cons, List.not_mem_nil, or_false, not_or] at h
    obtain ⟨hd, hh, hr⟩ := h
    simp [answerToFetch, hd, hh, hr]
  | deliver =>
    simp only [hc, answerTypes, List.mem_cons, List.not_mem_nil, or_false, not_or] at h
    obtain ⟨ht, hh, hr⟩ := h
    simp [answerToDeliver, ht, hh, hr]
  | clear =>
    simp only [hc, answerTypes, List.mem_cons, List.not_mem_nil, or_false, not_or] at h
    obtain ⟨hl, hr⟩ := h
    simp [answerToClear, hl, hr]
  | ping => exact if_neg fun h' => h (by simp [hc, answerTypes, h'.1])
  | dismiss => exact if_neg fun h' => h (by simp [hc, answerTypes, h'.1])
  | probe => exact if_neg fun h' => h (by simp [hc, answerTypes, h'.1])
  | assign => exact if_neg fun h' => h (by simp [hc, answerTypes, h'.1])

/-- R69: DATA answers FETCH. -/
theorem classify_data (t : Transaction) (addr pipeSeq : Byte) (payload : List Byte) :
    classify t ⟨typeData, addr, pipeSeq, payload⟩ =
      if t.call = .fetch ∧ AnswersFrom t addr pipeSeq ∧ payload ≠ [] then
        some (.data (seqBitOf pipeSeq) payload) else none := by
  have only : ∀ k, typeData ∈ answerTypes k → k = .fetch := fun k => by cases k <;> decide
  by_cases hc : t.call = .fetch
  · simp only [classify, hc, answerToFetch, fromCalled_iff]
    grind [typeData, typeTaken, typeHold, typeRefuse, typeCleared]
  · rw [if_neg fun h => hc h.1]
    exact classify_type (mt (only _) hc)

/-- R74: TAKEN answers DELIVER with its bit. -/
theorem classify_taken (t : Transaction) (addr pipeSeq : Byte) (payload : List Byte) :
    classify t ⟨typeTaken, addr, pipeSeq, payload⟩ =
      if t.call = .deliver ∧ AnswersFrom t addr pipeSeq ∧ payload = [] ∧ seqBitOf pipeSeq = t.seq then
        some (.ends .taken) else none := by
  have only : ∀ k, typeTaken ∈ answerTypes k → k = .deliver := fun k => by cases k <;> decide
  by_cases hc : t.call = .deliver
  · simp only [classify, hc, answerToDeliver, fromCalled_iff]
    grind [typeData, typeTaken, typeHold, typeRefuse, typeCleared]
  · rw [if_neg fun h => hc h.1]
    exact classify_type (mt (only _) hc)

/-- R72, R76: HOLD answers FETCH and DELIVER. -/
theorem classify_hold (t : Transaction) (addr pipeSeq : Byte) (payload : List Byte) :
    classify t ⟨typeHold, addr, pipeSeq, payload⟩ =
      if (t.call = .fetch ∨ t.call = .deliver) ∧ AnswersFrom t addr pipeSeq ∧ payload = [] then
        some (.ends .hold) else none := by
  have only : ∀ k, typeHold ∈ answerTypes k → k = .fetch ∨ k = .deliver := fun k => by cases k <;> decide
  by_cases hc : t.call = .fetch ∨ t.call = .deliver
  · obtain hc | hc := hc
    · simp only [classify, hc, answerToFetch, fromCalled_iff]
      grind [typeData, typeTaken, typeHold, typeRefuse, typeCleared]
    · simp only [classify, hc, answerToDeliver, fromCalled_iff]
      grind [typeData, typeTaken, typeHold, typeRefuse, typeCleared]
  · rw [if_neg fun h => hc h.1]
    exact classify_type (mt (only _) hc)

/-- R72, R76, R77: REFUSE answers any call on a pipe. -/
theorem classify_refuse (t : Transaction) (addr pipeSeq : Byte) (payload : List Byte) :
    classify t ⟨typeRefuse, addr, pipeSeq, payload⟩ =
      if (t.call = .fetch ∨ t.call = .deliver ∨ t.call = .clear) ∧ AnswersFrom t addr pipeSeq ∧ payload = [] then
        some (.ends .refuse) else none := by
  have only : ∀ k, typeRefuse ∈ answerTypes k → k = .fetch ∨ k = .deliver ∨ k = .clear := fun k => by cases k <;> decide
  by_cases hc : t.call = .fetch ∨ t.call = .deliver ∨ t.call = .clear
  · obtain hc | hc | hc := hc
    · simp only [classify, hc, answerToFetch, fromCalled_iff]
      grind [typeData, typeTaken, typeHold, typeRefuse, typeCleared]
    · simp only [classify, hc, answerToDeliver, fromCalled_iff]
      grind [typeData, typeTaken, typeHold, typeRefuse, typeCleared]
    · simp only [classify, hc, answerToClear, fromCalled_iff]
      grind [typeData, typeTaken, typeHold, typeRefuse, typeCleared]
  · rw [if_neg fun h => hc h.1]
    exact classify_type (mt (only _) hc)

/-- R77: CLEARED answers CLEAR. -/
theorem classify_cleared (t : Transaction) (addr pipeSeq : Byte) (payload : List Byte) :
    classify t ⟨typeCleared, addr, pipeSeq, payload⟩ =
      if t.call = .clear ∧ AnswersFrom t addr pipeSeq ∧ payload = [] then some (.ends .cleared) else none := by
  have only : ∀ k, typeCleared ∈ answerTypes k → k = .clear := fun k => by cases k <;> decide
  by_cases hc : t.call = .clear
  · simp only [classify, hc, answerToClear, fromCalled_iff]
    grind [typeData, typeTaken, typeHold, typeRefuse, typeCleared]
  · rw [if_neg fun h => hc h.1]
    exact classify_type (mt (only _) hc)

/-- R92: PRESENT answers PING with the identity asked for. -/
theorem classify_present (t : Transaction) (addr pipeSeq : Byte) (payload : List Byte) :
    classify t ⟨typePresent, addr, pipeSeq, payload⟩ =
      if t.call = .ping ∧ addr.toNat = t.answerFrom ∧ payloadIdent payload = t.identity ∧ t.identity ≠ none then
        some (.ends .present) else none := by
  have only : ∀ k, typePresent ∈ answerTypes k → k = .ping := fun k => by cases k <;> decide
  by_cases hc : t.call = .ping
  · simp only [classify, hc, answerToPing]
  · rw [if_neg fun h => hc h.1]
    exact classify_type (mt (only _) hc)

/-- R98: DISMISSED answers DISMISS. -/
theorem classify_dismissed (t : Transaction) (addr pipeSeq : Byte) (payload : List Byte) :
    classify t ⟨typeDismissed, addr, pipeSeq, payload⟩ =
      if t.call = .dismiss ∧ addr.toNat = t.answerFrom ∧ payload = [] then some (.ends .dismissed) else none := by
  have only : ∀ k, typeDismissed ∈ answerTypes k → k = .dismiss := fun k => by cases k <;> decide
  by_cases hc : t.call = .dismiss
  · simp only [classify, hc, answerToDismiss]
  · rw [if_neg fun h => hc h.1]
    exact classify_type (mt (only _) hc)

/-- R112: ADOPTED answers ASSIGN with the held identity. -/
theorem classify_adopted (t : Transaction) (addr pipeSeq : Byte) (payload : List Byte) :
    classify t ⟨typeAdopted, addr, pipeSeq, payload⟩ =
      if t.call = .assign ∧ addr.toNat = t.answerFrom ∧ payloadIdent payload = t.identity ∧ t.identity ≠ none then
        some (.ends .adopted) else none := by
  have only : ∀ k, typeAdopted ∈ answerTypes k → k = .assign := fun k => by cases k <;> decide
  by_cases hc : t.call = .assign
  · simp only [classify, hc, answerToAssign]
  · rw [if_neg fun h => hc h.1]
    exact classify_type (mt (only _) hc)

/-- R109: IDENT answers PROBE with an identity under the probed bits. -/
theorem classify_ident {i : Ident} {b : Prefix} (hc : t.call = .probe) (ha : addr.toNat = t.answerFrom)
    (hi : payloadIdent payload = some i) (hb : t.probed = some b) (hcov : prefixCovers b i = true) :
    classify t ⟨typeIdent, addr, pipeSeq, payload⟩ = some (.ends (.ident i)) := by
  simp only [classify, hc, answerToProbe, ha, and_self, if_true, hi, hb, hcov]

theorem classify_ident_none (h : t.call ≠ .probe ∨ addr.toNat ≠ t.answerFrom ∨
      ((payloadIdent payload).bind fun i => t.probed.map fun b => prefixCovers b i) ≠ some true) :
    classify t ⟨typeIdent, addr, pipeSeq, payload⟩ = none := by
  have only : ∀ k, typeIdent ∈ answerTypes k → k = .probe := fun k => by cases k <;> decide
  by_cases hc : t.call = .probe
  · simp only [classify, hc, answerToProbe, true_and]
    obtain h | h | h := h
    · exact absurd hc h
    · exact if_neg h
    · cases hi : payloadIdent payload with
      | none => exact ite_self _
      | some i =>
        cases hb : t.probed with
        | none => exact ite_self _
        | some b =>
          have hcov : ¬prefixCovers b i = true := fun hcov => h (by simp [hi, hb, hcov])
          simp only [if_neg hcov, ite_self]
  · exact classify_type (mt (only _) hc)

/-! ## Answers that settle nothing -/

/-- R65: an unacceptable answer of no DATA leaves the engine waiting. -/
theorem nodeAnswer_waits {type : Byte} (h : Hearing t s) (hp : payload.length ≤ 64) (hd : type ≠ typeData)
    (hv : classify t ⟨type, addr, pipeSeq, payload⟩ = none) : nodeAnswer type addr pipeSeq payload s =
      .next (kickTx { s with txn := some { t with heard := .unacceptable } }) := by
  have ht : s.txn = some t := h.2.2.1
  rw [nodeAnswer_unacceptable h hp hv, if_neg fun hc => hd hc.2.1, updTxn, ht]
  rfl

/-- Settles O41: the checks of R65 fail one by one in the classification. -/
theorem unacceptableAnswerWaitsForQuiet : Obligations.UnacceptableAnswerWaitsForQuiet := by
  intro addr pipeSeq payload t s hear hlen waits
  have ht : s.txn = some t := hear.2.2.1
  have ident_none : payload.length ≠ 4 → payloadIdent payload = none := fun h => by
    unfold payloadIdent
    split
    · exact absurd rfl h
    · rfl
  refine ⟨fun h => ?data, fun hc hne h => ?stored, fun h => ?taken, fun h => ?hold, fun h => ?refuse, fun h => ?cleared,
    fun h => ?dismissed, fun h => ?ident, fun h => ?present, fun h => ?adopted⟩
  case data =>
    refine (nodeAnswer_unacceptable hear hlen ((classify_data _ _ _ _).trans (if_neg ?_))).trans ?_
    · rintro ⟨hc, -, hne⟩
      exact h.elim (absurd hc) hne
    · rw [if_neg (by rintro ⟨hc, -, hne⟩; exact h.elim (absurd hc) hne), updTxn, ht]
      rfl
  case stored =>
    refine (nodeAnswer_unacceptable hear hlen ((classify_data _ _ _ _).trans (if_neg ?_))).trans ?_
    · rintro ⟨-, ⟨ha, hp⟩, -⟩
      exact h.elim (absurd ha) (absurd hp)
    · rw [if_pos ⟨hc, rfl, hne⟩, updTxn]
      exact congrArg (fun o : Option Transaction => Host.Outcome.next (kickTx { caught payload s with txn := o }))
        (congrArg (Option.map _) ht)
  case taken =>
    refine nodeAnswer_waits hear hlen (by decide) ((classify_taken _ _ _ _).trans (if_neg ?_))
    rintro ⟨hc, ⟨ha, hp⟩, he, hb⟩
    obtain h | h | h | h | h := h
    exacts [h hc, h ha, h hp, h he, h hb]
  case hold =>
    refine nodeAnswer_waits hear hlen (by decide) ((classify_hold _ _ _ _).trans (if_neg ?_))
    rintro ⟨hc, ⟨ha, hp⟩, he⟩
    obtain ⟨hf, hd⟩ | h | h | h := h
    exacts [hc.elim hf hd, h ha, h hp, h he]
  case refuse =>
    refine nodeAnswer_waits hear hlen (by decide) ((classify_refuse _ _ _ _).trans (if_neg ?_))
    rintro ⟨hc, ⟨ha, hp⟩, he⟩
    obtain ⟨hf, hd, hl⟩ | h | h | h := h
    exacts [hc.elim hf fun hc => hc.elim hd hl, h ha, h hp, h he]
  case cleared =>
    refine nodeAnswer_waits hear hlen (by decide) ((classify_cleared _ _ _ _).trans (if_neg ?_))
    rintro ⟨hc, ⟨ha, hp⟩, he⟩
    obtain h | h | h | h := h
    exacts [h hc, h ha, h hp, h he]
  case dismissed =>
    refine nodeAnswer_waits hear hlen (by decide) ((classify_dismissed _ _ _ _).trans (if_neg ?_))
    rintro ⟨hc, ha, he⟩
    obtain h | h | h := h
    exacts [h hc, h ha, h he]
  case ident => exact nodeAnswer_waits hear hlen (by decide) (classify_ident_none h)
  case present =>
    refine nodeAnswer_waits hear hlen (by decide) ((classify_present _ _ _ _).trans (if_neg ?_))
    rintro ⟨hc, ha, hi, hn⟩
    obtain h | h | h | h := h
    exacts [h hc, h ha, h hi, hn (hi ▸ ident_none h)]
  case adopted =>
    refine nodeAnswer_waits hear hlen (by decide) ((classify_adopted _ _ _ _).trans (if_neg ?_))
    rintro ⟨hc, ha, hi, hn⟩
    obtain h | h | h | h := h
    exacts [h hc, h ha, h hi, hn (hi ▸ ident_none h)]

/-! ## DATA and its CONFIRM -/

/-- Settles O37: a DATA that passes the checks is confirmed. -/
theorem dataIsConfirmed : Obligations.DataIsConfirmed := by
  intro addr pipeSeq payload t s hear hc hfrom h1 h64
  have ht : s.txn = some t := hear.2.2.1
  have hne : payload ≠ [] := List.ne_nil_of_length_pos h1
  refine (nodeAnswer_valid hear h64 ((classify_data _ _ _ _).trans (if_pos ⟨hc, hfrom, hne⟩))).trans ?_
  rw [settleValid, dataHeard, updTxn, writeCatch]
  dsimp only
  rw [ht]
  rfl

/-- R66: the last byte of the CONFIRM ends the FETCH by the verdict on its DATA. -/
theorem exec_confirmSent {accepted seq : Bool} (hr : s.rstHigh = true) (he : s.engine = .confirming) (ht : s.txn = some t)
    (hv : t.verdict = some ⟨accepted, seq⟩) : exec .confirmSent s =
      .next (kickTx (settled (reportEnd t (if accepted then .accepted else .duplicate) (txnOver s)))) := by
  have ends : confirmEnded s = endTxn (if accepted then .accepted else .duplicate) s := by
    rw [confirmEnded, he, ht]
    dsimp only
    rw [hv]
  exact (live_high hr).trans (congrArg (fun u => Host.Outcome.next (kickTx u)) (ends.trans (endTxn_eq ht _)))

/-- R16: the catch block of an accepted DATA joins the queue. -/
theorem catchToQueue_eq {b : Block} (hp : findPipe p.handle s = some p) (hb : s.catchSlot = some b) :
    catchToQueue p.handle s =
      updPipe p.handle (fun q => { q with queue := q.queue ++ [b.release] }) { s with catchSlot := none } := by
  rw [catchToQueue, hb, hp]

/-- An update that changes nothing in what it finds changes nothing. -/
theorem updFirst_unchanged {α : Type} {hit : α → Bool} {f : α → α} {x : α} {xs : List α} (hx : xs.find? hit = some x)
    (hf : f x = x) : updFirst hit f xs = xs := by
  have same : ∀ ys : List α, updFirst hit id ys = ys := fun ys => by
    induction ys with
    | nil => rfl
    | cons y ys ih =>
      unfold updFirst
      rw [ih]
      exact ite_self _
  rw [updFirst_congr hx (g := id) hf, same]

theorem updPipe_unchanged {h : Nat} {f : Pipe → Pipe} (hp : findPipe h s = some q) (hf : f q = q) : updPipe h f s = s := by
  rw [updPipe, updFirst_unchanged hp hf]

theorem updNode_unchanged {a : Nat} {f : Node → Node} (hn : findNode a s = some n) (hf : f n = n) : updNode a f s = s := by
  rw [updNode, updFirst_unchanged hn hf]

/-- R34: a pipe whose mark is set asks for no DATA-WAITING. -/
theorem reportWaiting_marked {h : Nat} (hp : findPipe h s = some q) (hm : q.waitingReported = true) :
    reportWaiting h s = s := by
  rw [reportWaiting, hp]
  exact if_pos hm

/-- R34: the record with its waiting-reported mark so. -/
def markedWaiting (mark : Bool) (q : Pipe) : Pipe := { q with waitingReported := mark }

/-- R34: one whose mark is clear asks for it, and takes the mark if it is stored. -/
theorem reportWaiting_asks {h : Nat} (hp : findPipe h s = some q) (hm : q.waitingReported = false) :
    reportWaiting h s = notify (.dataWaiting h q.queue.length)
      (updPipe h (markedWaiting (decide (s.notices.length < 16))) s) := by
  have fits : noticeFits s = decide (s.notices.length < 16) := rfl
  have clear : markedWaiting false q = q := by rw [markedWaiting, ← hm]
  rw [reportWaiting, hp]
  dsimp only
  rw [if_neg (ne_true_of_eq_false hm), fits]
  cases decide (s.notices.length < 16) with
  | true => rfl
  | false =>
    rw [updPipe_unchanged hp clear]
    rfl

/-- R16: the record with the catch block at the tail of its queue. -/
def enqueued (b : Block) (q : Pipe) : Pipe := { q with queue := q.queue ++ [b.release] }

/-- R34, R70: the record of an accepted DATA's pipe, its mark apart. -/
def joinedPipe (b : Block) (q : Pipe) : Pipe :=
  { q with queue := q.queue ++ [b.release], seq := !q.seq, transfers := min (q.transfers + 1) 65535, tries := 0 }

/-- R34, R70: the record is counted and the mark is settled with the block in the queue. -/
theorem pipeAccepted_enqueued {b : Block} (hp : findPipe p.handle s = some p) :
    pipeAccepted p.handle (updPipe p.handle (enqueued b) s) =
      if p.waitingReported then updPipe p.handle (joinedPipe b) s
      else notify (.dataWaiting p.handle (p.queue.length + 1))
        (updPipe p.handle (fun q => markedWaiting (decide (s.notices.length < 16)) (joinedPipe b q)) s) := by
  have counts : pipeAccepted p.handle (updPipe p.handle (enqueued b) s) =
      reportWaiting p.handle (updPipe p.handle (joinedPipe b) s) :=
    congrArg (reportWaiting p.handle) (updPipe_updPipe p.handle s fun _ => rfl)
  have found : findPipe p.handle (updPipe p.handle (joinedPipe b) s) = some (joinedPipe b p) :=
    findPipe_updPipe (fun _ => rfl) hp
  have count : (joinedPipe b p).queue.length = p.queue.length + 1 := List.length_append
  rw [counts]
  cases hm : p.waitingReported with
  | true => exact reportWaiting_marked found hm
  | false =>
    rw [reportWaiting_asks found hm, updPipe_updPipe (f := joinedPipe b) (hf := fun _ => rfl), count]
    rfl

/-- R16, R37: an accepted DATA at the end of its FETCH. -/
theorem endPipeTxn_accepted {b : Block} (hp : findPipe p.handle s = some p) (hb : s.catchSlot = some b) :
    endPipeTxn p.handle .fetch .accepted s =
      if p.state = .closing then
        closed p.handle (p.queue ++ [b.release]) (updNode p.node (fun m => { m with silence := 0 }) { s with catchSlot := none })
      else dataAccepted p b s := by
  have joins : settleSilence p.node .accepted (settleBlock p.handle .fetch .accepted s) =
      updPipe p.handle (enqueued b) (updNode p.node (fun m => { m with silence := 0 }) { s with catchSlot := none }) :=
    congrArg (clearSilence p.node) (catchToQueue_eq hp hb)
  rw [endPipeTxn_eq hp, joins]
  by_cases hc : p.state = .closing
  · rw [if_pos hc, if_pos hc, completeClose_eq (findPipe_updPipe (by exact fun _ => rfl) (by exact hp)),
      closed_updPipe (by exact fun _ => rfl)]
    rfl
  · rw [if_neg hc, if_neg hc, settlePipe, pipeAccepted_enqueued (by exact hp), dataAccepted]
    cases hm : p.waitingReported with
    | true => exact updPipe_congr (by exact hp) (by rw [joinedPipe, hm])
    | false => rfl

/-- R16, R71: a duplicate at the end of its FETCH. -/
theorem endPipeTxn_duplicate {b : Block} (hp : findPipe p.handle s = some p) (hb : s.catchSlot = some b) :
    endPipeTxn p.handle .fetch .duplicate s =
      let freed := updNode p.node (fun m => { m with silence := 0 })
        { s with catchSlot := none, free := s.free ++ [b.release] }
      if p.state = .closing then closed p.handle p.queue freed
      else updPipe p.handle (fun q => { q with duplicates := min (q.duplicates + 1) 65535, tries := 0 }) freed := by
  have back : blockReturned p .fetch s = { s with catchSlot := none, free := s.free ++ [b.release] } := by
    rw [blockReturned, hb]
    rfl
  rw [endPipeTxn_returned (by decide) (by decide) hp, back]
  rfl

/-- Settles O38: the verdict on the DATA chooses between the two ends. -/
theorem confirmEndsTheFetch : Obligations.ConfirmEndsTheFetch := by
  intro p b t seq s hr he ht hc hb hp heard accepted freed
  have noProbe : CallKind.fetch ≠ .probe := nofun
  have ended : ∀ v : Bool, t.verdict = some ⟨v, seq⟩ → exec .confirmSent s = .next (kickTx (settled
      (endPipeTxn p.handle .fetch (if v then .accepted else .duplicate) (txnOver s)))) := by
    intro v hv
    rw [exec_confirmSent hr he ht hv, reportEnd_pipe hc, countOutcome_other] <;> cases v <;> exact nofun
  refine ⟨fun hv hn hm => ?marked, fun hv hn hm hl => ?stored, fun hv hn hm hl => ?missed, fun hv hn => ?duplicate,
    fun hv hn => ?closedAccepted, fun hv hn => ?closedDuplicate⟩
  case marked =>
    rw [ended true hv, if_pos rfl, endPipeTxn_accepted (by exact hp) (by exact hb), if_neg hn, dataAccepted, if_pos hm]
  case stored =>
    rw [ended true hv, if_pos rfl, endPipeTxn_accepted (by exact hp) (by exact hb), if_neg hn, dataAccepted,
      if_neg (ne_true_of_eq_false hm), decide_eq_true (by exact hl)]
  case missed =>
    rw [ended true hv, if_pos rfl, endPipeTxn_accepted (by exact hp) (by exact hb), if_neg hn, dataAccepted,
      if_neg (ne_true_of_eq_false hm), decide_eq_false (by exact Nat.not_lt.2 hl)]
  case duplicate =>
    rw [ended false hv, if_neg Bool.false_ne_true, endPipeTxn_duplicate (by exact hp) (by exact hb)]
    exact congrArg (fun u => Host.Outcome.next (kickTx (settled u))) (if_neg hn)
  case closedAccepted =>
    rw [ended true hv, if_pos rfl, endPipeTxn_accepted (by exact hp) (by exact hb), if_pos hn]
  case closedDuplicate =>
    rw [ended false hv, if_neg Bool.false_ne_true, endPipeTxn_duplicate (by exact hp) (by exact hb)]
    exact congrArg (fun u => Host.Outcome.next (kickTx (settled u))) (if_pos hn)

/-! ## The answers that end a transaction -/

/-- R66: a VALID answer to a call on a pipe ends its transaction. -/
theorem nodeAnswer_endsPipe {type : Byte} {e : TxnEnd} (h : Hearing t s) (hc : CallOn p call t) (hp : payload.length ≤ 64)
    (hv : classify t ⟨type, addr, pipeSeq, payload⟩ = some (.ends e)) (hu : e ≠ .unanswered) (hg : e ≠ .garbled) :
    nodeAnswer type addr pipeSeq payload s = .next (kickTx (settled (endPipeTxn p.handle call e (txnOver s)))) := by
  have ht : s.txn = some t := h.2.2.1
  rw [nodeAnswer_valid h hp hv, settleValid, endTxn_eq ht, reportEnd_pipe hc, countOutcome_other hu hg]

/-- R11: the DELIVERED of a block, if it bears a confirm tag. -/
theorem notifyDelivered_eq (h : Nat) (discarded : Bool) (b : Block) (s : State) : notifyDelivered h discarded b s =
    forEach notify (b.confirm.toList.map fun tag => .delivered h tag discarded) s := by
  unfold notifyDelivered
  cases b.confirm with
  | none => rfl
  | some tag => rfl

/-- R17: the TAKEN head is freed and its DELIVERED asked for. -/
theorem freeTakenHead_eq {b : Block} {blocks : List Block} (hp : findPipe p.handle s = some p) (hq : p.queue = b :: blocks) :
    freeTakenHead p.handle s = forEach notify (b.confirm.toList.map fun tag => .delivered p.handle tag false)
      (updPipe p.handle (fun q => { q with queue := blocks }) { s with free := s.free ++ [b.release] }) := by
  rw [freeTakenHead, hp]
  dsimp only
  rw [hq]
  exact notifyDelivered_eq _ _ _ _

/-- R17, R37, R75: a TAKEN at the end of its DELIVER. -/
theorem endPipeTxn_taken {b : Block} {blocks : List Block} (hp : findPipe p.handle s = some p)
    (hq : p.queue = b :: blocks) : endPipeTxn p.handle .deliver .taken s =
      let delivered := forEach notify (b.confirm.toList.map fun tag => .delivered p.handle tag false)
      let heard := updNode p.node (fun m => { m with silence := 0 }) { s with free := s.free ++ [b.release] }
      if p.state = .closing then closed p.handle blocks (delivered heard)
      else delivered (updPipe p.handle (fun q => { q with
        queue := blocks, seq := !q.seq, transfers := min (q.transfers + 1) 65535, tries := 0 }) heard) := by
  dsimp only
  let told := b.confirm.toList.map fun tag => NoticeBody.delivered p.handle tag false
  let heard := updNode p.node (fun m => { m with silence := 0 }) { s with free := s.free ++ [b.release] }
  let shortened := fun q : Pipe => { q with queue := blocks }
  have frees : settleSilence p.node .taken (settleBlock p.handle .deliver .taken s) =
      updPipe p.handle shortened (forEach notify told heard) := by
    have freed : settleBlock p.handle .deliver .taken s =
        forEach notify told (updPipe p.handle shortened { s with free := s.free ++ [b.release] }) := freeTakenHead_eq hp hq
    rw [freed, settleSilence, clearSilence, ← (passesNotices_updNode _ _).all, ← (passesNotices_updPipe _ _).all]
    rfl
  have found : findPipe p.handle (forEach notify told heard) = some p := by
    rw [findPipe, (forEach_notify_pool told heard).1]
    exact hp
  rw [endPipeTxn_eq hp, frees]
  by_cases hc : p.state = .closing
  · rw [if_pos hc, if_pos hc, completeClose_eq (findPipe_updPipe (f := shortened) (fun _ => rfl) found),
      closed_updPipe (f := shortened) fun _ => rfl]
  · rw [if_neg hc, if_neg hc, settlePipe, pipeTaken, updPipe_updPipe (f := shortened) (hf := fun _ => rfl),
      (passesNotices_updPipe _ _).all]
    rfl

/-- Settles O39: a TAKEN with the DELIVER's bit is VALID. -/
theorem takenFreesTheHead : Obligations.TakenFreesTheHead := by
  intro addr pipeSeq p b blocks t s hear hc hfrom hbit hp hq delivered heard
  have ended : exec (.taken addr pipeSeq []) s =
      .next (kickTx (settled (endPipeTxn p.handle .deliver .taken (txnOver s)))) :=
    nodeAnswer_endsPipe hear hc (Nat.zero_le _) ((classify_taken _ _ _ _).trans (if_pos ⟨hc.2.1, hfrom, rfl, hbit⟩))
      nofun nofun
  rw [endPipeTxn_taken (by exact hp) hq] at ended
  exact ⟨fun hn => ended.trans (congrArg (fun u => Host.Outcome.next (kickTx (settled u))) (if_neg hn)),
    fun hn => ended.trans (congrArg (fun u => Host.Outcome.next (kickTx (settled u))) (if_pos hn))⟩

/-- Settles O40: each answer returns the block and clears the silence, and then the pipe or its close is settled. -/
theorem holdRefuseAndClearedSettleThePipe : Obligations.HoldRefuseAndClearedSettleThePipe := by
  refine ⟨fun addr pipeSeq p call t s hear hc hfrom hp => ?_, fun addr pipeSeq p t s hear hc hfrom hp => ?_⟩
  · intro u
    have hcall : t.call = call := hc.2.1
    have held : call = .fetch ∨ call = .deliver → exec (.hold addr pipeSeq []) s = .next (kickTx (settled
        (if p.state = .closing then closed p.handle p.queue u else updPipe p.handle (fun q => { q with tries := 0 }) u))) := by
      intro hk
      refine (nodeAnswer_endsPipe hear hc (Nat.zero_le _)
        ((classify_hold _ _ _ _).trans (if_pos ⟨by rw [hcall]; exact hk, hfrom, rfl⟩)) nofun nofun).trans ?_
      rw [endPipeTxn_returned (by decide) (by decide) (by exact hp)]
      rfl
    have refused : call = .fetch ∨ call = .deliver ∨ call = .clear → exec (.refuse addr pipeSeq []) s =
        .next (kickTx (settled (if p.state = .closing then closed p.handle p.queue u
          else notify (.pipeHalted p.handle (decide (call = .clear)))
            (updPipe p.handle (fun q => { q with state := .halted, tries := 0 }) u)))) := by
      intro hk
      refine (nodeAnswer_endsPipe hear hc (Nat.zero_le _)
        ((classify_refuse _ _ _ _).trans (if_pos ⟨by rw [hcall]; exact hk, hfrom, rfl⟩)) nofun nofun).trans ?_
      rw [endPipeTxn_returned (by decide) (by decide) (by exact hp)]
      rfl
    refine ⟨fun hk hn => ?_, fun hk hn => ?_, fun hk hn => ?_, fun hk hn => ?_⟩
    · rw [held hk, if_neg hn]
    · rw [refused hk, if_neg hn]
    · rw [held hk, if_pos hn]
    · rw [refused hk, if_pos hn]
  · intro u
    have cleared : exec (.cleared addr pipeSeq []) s = .next (kickTx (settled
        (if p.state = .closing then closed p.handle p.queue u
        else notify (.pipeReady p.handle) (updPipe p.handle
          (fun q => { q with state := .active, seq := false, tries := 0, clearNeeded := false }) u)))) := by
      refine (nodeAnswer_endsPipe hear hc (Nat.zero_le _)
        ((classify_cleared _ _ _ _).trans (if_pos ⟨hc.2.1, hfrom, rfl⟩)) nofun nofun).trans ?_
      rw [endPipeTxn_returned (by decide) (by decide) (by exact hp)]
      rfl
    refine ⟨fun hn => ?_, fun hn => ?_⟩
    · rw [cleared, if_neg hn]
    · rw [cleared, if_pos hn]

end Sys2Proof.Machine
end

section
/-! Calls on nodes and the sift at their ends (R93, R98, R99, R109 to R116), and the deferred reply (R139, R142). -/

set_option Elab.async false

namespace Sys2Proof.Machine

variable {s u : State} {p q : Pipe} {n : Node} {t : Transaction} {hd : Held} {a : Nat} {addr pipeSeq : Byte}
  {payload : List Byte}

/-! ## The deferred reply -/

/-- R139: the window entry that waits for an event takes its reply. -/
theorem answerDeferred_eq {w : Waits} {older newer : List WindowEntry} {e : WindowEntry}
    (hw : s.window = older ++ e :: newer) (he : e.state = .deferred w)
    (ho : ∀ x ∈ older, x.state ≠ .deferred w ∧ x.tag ≠ e.tag) (code : Code) (fields : ReplyFields) :
    answerDeferred w code fields s = answer e.tag code fields s := by
  have found : s.window.find? (fun x => x.state == .deferred w) = some e := by
    rw [hw]
    exact find_append (fun x hx => by simpa using (ho x hx).1) (by simpa using he)
  rw [answerDeferred, found]

/-- Settles O43: the slot is emptied and its request's reply composed; the entry found is the one that waits. -/
theorem deferredReplyIsComposed : Obligations.DeferredReplyIsComposed := by
  refine ⟨fun code sl s => ⟨fun h => ?empty, fun h => ?slot⟩, fun w code fields older newer e s hw he ho => ?composed⟩
  case empty => rw [answerSlot, h]
  case slot =>
    rw [answerSlot, h]
    dsimp only
    unfold slotFields
    cases sl.request <;> rfl
  case composed =>
    rw [answerDeferred_eq hw he ho, answer, composeReply_eq hw (fun x hx => (ho x hx).2) rfl]

/-! ## The ends of these calls -/

/-- R66: a VALID answer to a call on no pipe ends its transaction. -/
theorem nodeAnswer_ends {type : Byte} {e : TxnEnd} (h : Hearing t s) (hp : payload.length ≤ 64)
    (hv : classify t ⟨type, addr, pipeSeq, payload⟩ = some (.ends e)) :
    nodeAnswer type addr pipeSeq payload s = .next (kickTx (settled (reportEnd t e (txnOver s)))) := by
  have ht : s.txn = some t := h.2.2.1
  rw [nodeAnswer_valid h hp hv, settleValid, endTxn_eq ht]

/-- R68: a PROBE is not counted. -/
theorem countOutcome_probe (e : TxnEnd) (s : State) : countOutcome .probe e s = s := rfl

/-- R93: the end of a PING is the Node Table's. -/
theorem reportEnd_recall (he : t.entry = .recall a) (e : TxnEnd) (s : State) :
    reportEnd t e s = endPing a e (countOutcome t.call e s) := by rw [reportEnd, he]

/-- R98, R99: as is that of a DISMISS. -/
theorem reportEnd_dismiss (he : t.entry = .dismiss a) (e : TxnEnd) (s : State) :
    reportEnd t e s = endDismiss a e (countOutcome t.call e s) := by rw [reportEnd, he]

/-- R110: the end of a PROBE is the Sift Unit's. -/
theorem reportEnd_probe {b : Prefix} (he : t.entry = .sift) (hc : t.call = .probe) (hb : t.probed = some b) (e : TxnEnd)
    (s : State) : reportEnd t e s = endProbe b e s := by
  rw [reportEnd, he, hc, countOutcome_probe]
  dsimp only
  rw [endSiftCall, hb]

/-- R113, R114: as is that of an ASSIGN. -/
theorem reportEnd_assign (he : t.entry = .sift) (hb : t.probed = none) {e : TxnEnd}
    (hh : (countOutcome t.call e s).sift.held = some hd) : reportEnd t e s = endAssign hd e (countOutcome t.call e s) := by
  rw [reportEnd, he]
  dsimp only
  rw [endSiftCall, hb, hh]

/-- R65: what no FETCH hears is garbled with the state as it was. -/
theorem exec_garbled {rx : LoopRx} {c : Instr} (hr : s.rstHigh = true) (he : s.engine = .awaiting) (ht : s.txn = some t)
    (hc : t.call ≠ .fetch)
    (hways : c = .garbledSettled rx ∧ (readLoop rx).bind (classify t) = none ∧
        (t.heard ≠ .nothing ∨ rx.bytes ≠ [] ∨ rx.stopFault ≠ none) ∨ c = .garbleLimitExpiry ∧ t.heard ≠ .nothing) :
    exec c s = .next (kickTx (settled (reportEnd t .garbled (txnOver s)))) := by
  obtain ⟨rfl, hv, hh⟩ | ⟨rfl, hh⟩ := hways
  · rw [exec_garbledSettled hr he ht (.inr hv) (decide_eq_true hh), storeHeard_eq, if_neg fun h => hc h.1]
  · rw [exec_garbleLimitExpiry hr he ht hh, cutOff, if_neg fun h => hc h.1]

/-! ## PRESENT and DISMISSED -/

/-- R93: the LOST node is back with its memory. -/
theorem recallNode_lost (hn : findNode a s = some n) (hs : n.state = .lost) : recallNode a s =
    notify (.nodeBack a false) (updNode a (fun m => { m with state := .enrolled, silence := 0 })
      { s with pipes := s.pipes.map fun p => if p.node = a then { p with countdown := 1 } else p }) := by
  rw [recallNode, hn]
  exact if_pos hs

/-- R98: the DISMISSING node is gone and its request answered. -/
theorem dismissalAnswered_eq (hn : findNode a s = some n) (hp : (s.pipes.map (·.handle)).Nodup) : dismissalAnswered a s =
    answerDeferred (.dismiss a) .ok (.dismissNode (s.pipes.filter fun p => p.node == a).length)
      (forEach notify ((s.pipes.filter fun p => p.node == a).flatMap fun p => discardNotices p.handle p.queue) { s with
        pipes := s.pipes.filter fun p => p.node ≠ a
        nodes := s.nodes.eraseP fun m => m.addr == a
        free := s.free ++ ((s.pipes.filter fun p => p.node == a).flatMap (·.queue)).map Block.release }) := by
  rw [dismissalAnswered, hn]
  dsimp only
  rw [removeNode_eq a hp, handlesOf, List.length_map]

/-- Settles O42: each answer is VALID and the Node Table settles the node. -/
theorem presentAndDismissedSettleTheNode : Obligations.PresentAndDismissedSettleTheNode := by
  refine ⟨fun addr pipeSeq i n t s hear he hc ha hi hn hs => ?present,
    fun addr pipeSeq n t s hear he hc ha hn hp => ?dismissed⟩
  case present =>
    have valid : classify t ⟨typePresent, addr, pipeSeq, bytesOfIdent i⟩ = some (.ends .present) :=
      (classify_present _ _ _ _).trans
        (if_pos ⟨hc, ha, (payloadIdent_bytesOfIdent i).trans hi.symm, by rw [hi]; exact nofun⟩)
    refine (nodeAnswer_ends hear (by exact Nat.le_of_ble_eq_true rfl) valid).trans ?_
    rw [reportEnd_recall he, countOutcome_other (e := .present) nofun nofun, endPing, if_pos rfl, recallNode_lost (by exact hn) hs]
    rfl
  case dismissed =>
    refine (nodeAnswer_ends hear (Nat.zero_le _) ((classify_dismissed _ _ _ _).trans (if_pos ⟨hc, ha, rfl⟩))).trans ?_
    rw [reportEnd_dismiss he, countOutcome_other (e := .dismissed) nofun nofun, endDismiss, if_pos rfl,
      dismissalAnswered_eq (by exact hn) (by exact hp)]
    rfl

/-! ## The PROBE -/

/-- R111: an address that can be given. -/
theorem addressFree_iff : ((findNode a s).isNone && !(s.barred.contains a)) = true ↔
    ¬(findNode a s ≠ none ∨ a ∈ s.barred) := by
  simp [Option.isNone_iff_eq_none]

/-- R111: with every address occupied or barred none is free. -/
theorem lowestFreeAddress_eq_none (hall : ∀ b, 1 ≤ b → b ≤ 30 → findNode b s ≠ none ∨ b ∈ s.barred) :
    lowestFreeAddress s = none := by
  refine List.find?_eq_none.2 fun b hb => ?_
  obtain ⟨h1, h30⟩ := List.mem_range'_1.1 hb
  exact fun h => addressFree_iff.1 h (hall b h1 (Nat.le_of_lt_succ (by exact h30)))

/-- R111: the free address below which none is free. -/
theorem lowestFreeAddress_eq_some (h1 : 1 ≤ a) (h30 : a ≤ 30) (hfree : ¬(findNode a s ≠ none ∨ a ∈ s.barred))
    (hbelow : ∀ b, 1 ≤ b → b < a → findNode b s ≠ none ∨ b ∈ s.barred) : lowestFreeAddress s = some a := by
  refine List.find?_range'_eq_some.2 ⟨addressFree_iff.2 hfree, List.mem_range'_1.2 ⟨h1, ?_⟩, fun b hb1 hba => ?_⟩
  · exact Nat.lt_of_le_of_lt h30 (by decide)
  · rw [Bool.not_eq_true', Bool.eq_false_iff]
    exact fun h => addressFree_iff.1 h (hbelow b hb1 hba)

/-- R111: an identity that a record bears is held with its address. -/
theorem identFound_known {i : Ident} (hn : s.nodes.find? (fun m => m.identity == i) = some n) : identFound i s =
    { s with sift := { s.sift with state := .assigning, held := some ⟨i, n.addr, .readopt, 0⟩ } } := by
  rw [identFound, nodeOfIdentity, hn]
  rfl

/-- R111: one that no record bears goes by the addresses. -/
theorem identFound_unknown {i : Ident} (hn : ∀ m ∈ s.nodes, m.identity ≠ i) : identFound i s =
    match lowestFreeAddress s with
    | some b => { s with sift := { s.sift with state := .assigning, held := some ⟨i, b, .new, 0⟩ } }
    | none => siftEnded .tableFull { s with sift := { s.sift with unassigned := min (s.sift.unassigned + 1) 255 } } := by
  have none : nodeOfIdentity i s = none := List.find?_eq_none.2 fun m hm => by simpa using hn m hm
  rw [identFound, none]
  cases lowestFreeAddress s with
  | none => rfl
  | some b => rfl

/-- Settles O44: the identity's record, or the lowest free address, or the end. -/
theorem identChoosesTheAddress : Obligations.IdentChoosesTheAddress := by
  intro pipeSeq i b t s hear he hc ha hb hcov holding unusable
  have ended : exec (.ident 0 pipeSeq (bytesOfIdent i)) s = .next (kickTx (settled (identFound i (txnOver s)))) := by
    refine (nodeAnswer_ends hear (by exact Nat.le_of_ble_eq_true rfl)
      (classify_ident hc (by rw [ha]; rfl) (payloadIdent_bytesOfIdent i) hb hcov)).trans ?_
    rw [reportEnd_probe he hc hb]
    rfl
  refine ⟨fun n hn => ?known, fun a hn h1 h30 hfree hbelow => ?free, fun hn hall => ?full⟩
  case known =>
    rw [ended, identFound_known (by exact hn)]
    rfl
  case free =>
    rw [ended, identFound_unknown (by exact hn), lowestFreeAddress_eq_some h1 h30 (by exact hfree) (by exact hbelow)]
    rfl
  case full =>
    rw [ended, identFound_unknown (by exact hn), lowestFreeAddress_eq_none (by exact hall)]
    rfl

/-- R110: a garbled PROBE of fewer than 32 bits is split, the 0 branch on top. -/
theorem probeGarbled_splits {b : Prefix} (hl : b.len < 32) : probeGarbled b s = { s with sift := { s.sift with stack :=
    ⟨b.len + 1, b.bits⟩ :: ⟨b.len + 1, b.bits ||| 1#32 <<< (31 - b.len)⟩ :: s.sift.stack } } := if_pos hl

/-- R110: at 32 bits a conflict is counted. -/
theorem probeGarbled_conflicts {b : Prefix} (hl : 32 ≤ b.len) : probeGarbled b s =
    siftGoesOn { s with sift := { s.sift with conflicts := min (s.sift.conflicts + 1) 255 } } :=
  if_neg (Nat.not_lt.2 hl)

/-- Settles O45: the Sift Unit alone is told of the PROBE's end. -/
theorem probeOutcomesDriveTheSearch : Obligations.ProbeOutcomesDriveTheSearch := by
  intro rx b c t s hr he ht hentry hc hb goesOn
  refine ⟨fun hh => ?unanswered, fun hways => ?garbled⟩
  case unanswered =>
    rw [exec_replyWindowExpiry hr he ht hh, reportEnd_probe hentry hc hb]
    rfl
  case garbled =>
    have ended : exec c s = .next (kickTx (settled (probeGarbled b (txnOver s)))) := by
      rw [exec_garbled hr he ht (by rw [hc]; exact nofun) hways, reportEnd_probe hentry hc hb]
      rfl
    refine ⟨fun hl => ?_, fun hl => ?_⟩
    · rw [ended, probeGarbled_splits hl]
      rfl
    · rw [ended, probeGarbled_conflicts hl]
      rfl

/-! ## The ASSIGN answered -/

/-- R115: the record a held READOPT stands for. -/
theorem addr_of_heldRecord (hn : s.nodes.find? (fun m => m.addr == hd.addr && m.identity == hd.identity) = some n) :
    n.addr = hd.addr := by
  have := List.find?_some hn
  simp only [Bool.and_eq_true, beq_iff_eq] at this
  exact this.1

/-- R87, R113: a held NEW becomes a record. -/
theorem heldAdopted_new (hk : hd.kind = .new) : heldAdopted hd s = siftGoesOn
    (notify (.nodeJoined hd.addr hd.identity) { s with
      nodes := insertBy Node.addr ⟨hd.addr, hd.identity, .enrolled, 0, 0⟩ s.nodes
      sift := { s.sift with joined := min (s.sift.joined + 1) 255 } }) := by
  have passes : PassesNotices raiseJoined := passesNotices (fun _ => rfl) fun _ _ _ _ => rfl
  rw [heldAdopted, hk]
  dsimp only
  rw [continueSift_eq, ← passes]
  rfl

/-- R113, R115: a held READOPT whose record is gone is released. -/
theorem heldAdopted_gone (hk : hd.kind = .readopt) (hn : ∀ m ∈ s.nodes, m.addr = hd.addr → m.identity ≠ hd.identity) :
    heldAdopted hd s = heldReleased s := by
  have none : heldRecord hd s = none := List.find?_eq_none.2 fun m hm => by simpa using hn m hm
  rw [heldAdopted, hk, none]
  rfl

/-- R52, R95: the entries re-adoption leaves on the due list. -/
def readoptionKeeps (n : Node) (s : State) : List DueEntry :=
  if n.state = .dismissing then s.due
  else s.due.filter fun e => e ∉ (handlesOf n.addr s).map DueEntry.pipe ∧ ¬(n.state = .lost ∧ e = .recall n.addr)

theorem removeForReadoption_eq (n : Node) (s : State) :
    removeForReadoption n s = { s with due := readoptionKeeps n s } := by
  unfold removeForReadoption readoptionKeeps
  cases hs : n.state with
  | enrolled => simp [removePipeEntries]
  | lost =>
    simpa [removePipeEntries, removeDue, List.filter_filter] using List.filter_congr fun e _ => Bool.and_comm _ _
  | dismissing => rfl

/-- Notices asked for one after another. -/
theorem forEach_notify_map {α : Type} (f : α → NoticeBody) (xs : List α) (s : State) :
    forEach (fun x => notify (f x)) xs s = forEach notify (xs.map f) s := by
  induction xs generalizing s with
  | nil => rfl
  | cons x xs ih => exact ih _

/-- R40, R95: what re-adoption leaves before its notices. -/
def readopted (n : Node) (s : State) : State :=
  updNode n.addr (fun m => { m with
      state := if m.state = .dismissing then .dismissing else .enrolled, silence := 0, dismissTries := 0 })
    { s with
      due := readoptionKeeps n s
      pipes := s.pipes.map fun p => if p.node = n.addr then readoptPipe p else p }

theorem readoptNode_eq (n : Node) (s : State) : readoptNode n s =
    forEach notify (.nodeBack n.addr true :: (stalledHandles n.addr s).map fun h => .pipeReady h) (readopted n s) := by
  rw [readoptNode, removeForReadoption_eq, forEach_notify_map]
  rfl

/-- R40, R95, R113: a record found again is re-adopted. -/
theorem heldAdopted_readopt (hk : hd.kind = .readopt)
    (hn : s.nodes.find? (fun m => m.addr == hd.addr && m.identity == hd.identity) = some n) : heldAdopted hd s =
      siftGoesOn (forEach notify (.nodeBack n.addr true :: (stalledHandles n.addr s).map fun h => .pipeReady h)
        (readopted n { s with sift := { s.sift with readopted := min (s.sift.readopted + 1) 255 } })) := by
  have found : heldRecord hd s = some n := hn
  have passes : PassesNotices raiseReadopted := passesNotices (fun _ => rfl) fun _ _ _ _ => rfl
  rw [heldAdopted, hk, found]
  dsimp only
  rw [continueSift_eq, readoptNode_eq, ← passes.all]
  rfl

/-- Settles O46: an ADOPTED of the held identity is VALID, and its kind and its record choose. -/
theorem adoptedEnrolsTheNode : Obligations.AdoptedEnrolsTheNode := by
  intro addr pipeSeq hd n t s hear he hc hb ha hi hh
  have ended : exec (.adopted addr pipeSeq (bytesOfIdent hd.identity)) s =
      .next (kickTx (settled (heldAdopted hd (txnOver s)))) := by
    refine (nodeAnswer_ends hear (by exact Nat.le_of_ble_eq_true rfl) ((classify_adopted _ _ _ _).trans
      (if_pos ⟨hc, ha.symm, (payloadIdent_bytesOfIdent _).trans hi.symm, by rw [hi]; exact nofun⟩))).trans ?_
    rw [reportEnd_assign he hb (by rw [countOutcome_other (e := .adopted) nofun nofun]; exact hh),
      countOutcome_other (e := .adopted) nofun nofun, endAssign, if_pos rfl]
  refine ⟨fun hk => ?new, fun hk hn => ?readopt, fun hk hn => ?gone⟩
  case new =>
    rw [ended, heldAdopted_new hk]
    rfl
  case readopt =>
    intro mine stalled
    rw [ended, heldAdopted_readopt hk (by exact hn), readopted, readoptionKeeps, stalledHandles, handlesOf,
      addr_of_heldRecord hn, List.map_map, List.map_map]
    simp only [stalled, mine, decide_eq_true_eq]
    rfl
  case gone => rw [ended, heldAdopted_gone hk (by exact hn)]

end Sys2Proof.Machine
end

section
/-! Failed PINGs, DISMISSes and ASSIGNs (R68, R93, R99, R114). -/

set_option Elab.async false

namespace Sys2Proof.Machine

variable {s u : State} {n : Node} {t : Transaction} {hd : Held} {a : Nat}

/-! ## DISMISS -/

/-- R99: below the try limit the DISMISS is tried again, in RUNNING. -/
theorem dismissTryFailed_retries (hn : findNode a s = some n) (hl : n.dismissTries + 1 < s.params.tryLimit)
    (hd : DueEntry.dismiss a ∉ s.due) : dismissTryFailed a s =
      updNode a (fun m => { m with dismissTries := n.dismissTries + 1 })
        { s with due := s.due ++ if s.loop = .running then [.dismiss a] else [] } := by
  have counted : updNode a (fun m => { m with dismissTries := m.dismissTries + 1 }) s =
      updNode a (fun m => { m with dismissTries := n.dismissTries + 1 }) s := updNode_congr hn rfl
  rw [dismissTryFailed, hn]
  dsimp only
  rw [if_pos hl, counted]
  by_cases hr : s.loop = .running
  · rw [if_pos hr, if_pos (by exact hr), appendDue, if_neg (by exact hd)]
    rfl
  · rw [if_neg hr, if_neg (by exact hr), List.append_nil]

/-- R99: at the limit the node is LOST and its request answered. -/
theorem dismissTryFailed_gives_up (hn : findNode a s = some n) (hl : s.params.tryLimit ≤ n.dismissTries + 1) :
    dismissTryFailed a s = answerDeferred (.dismiss a) .noAnswer (.dismissNode 0) (loseNode a s) := by
  rw [dismissTryFailed, hn]
  exact if_neg (Nat.not_lt.2 hl)

/-- R98, R99: the silence first, and then the try, by what the DISMISS met. -/
theorem endDismiss_failed (garbled : Bool) (hn : findNode a s = some n) :
    endDismiss a (if garbled then .garbled else .unanswered) s = dismissTryFailed a
      (updNode a (fun m => { m with silence := if garbled then n.silence else min (n.silence + 1) 32 }) s) := by
  cases garbled with
  | true => exact congrArg (dismissTryFailed a) (updNode_unchanged hn rfl).symm
  | false => exact congrArg (dismissTryFailed a) (updNode_congr hn rfl)

/-! ## ASSIGN -/

/-- R114: below the try limit the ASSIGN is tried again, in RUNNING. -/
theorem assignTryFailed_retries (hg : heldGone hd s = false) (hl : hd.tries + 1 < s.params.tryLimit)
    (hs : DueEntry.sift ∉ s.due) : assignTryFailed hd s = { s with
      due := s.due ++ if s.loop = .running then [.sift] else []
      sift := { s.sift with held := some { hd with tries := hd.tries + 1 } } } := by
  rw [assignTryFailed, if_neg (ne_true_of_eq_false hg), if_pos hl]
  dsimp only
  by_cases hr : s.loop = .running
  · rw [if_pos hr, if_pos (by exact hr), appendDue, if_neg (by exact hs)]
    rfl
  · rw [if_neg hr, if_neg (by exact hr), List.append_nil]
    rfl

/-- R101, R114, R118: the address of a held NEW identity is barred, that of a READOPT is not. -/
theorem barHeld_eq (hd : Held) (s : State) :
    barHeld hd s = { s with barred := if hd.kind = .new then barredWith hd.addr s.barred else s.barred } := by
  unfold barHeld
  cases hd.kind with
  | new => exact barAddress_eq _ _
  | readopt => rfl

/-- R114: at the limit it is given up. -/
theorem assignTryFailed_gives_up (hg : heldGone hd s = false) (hl : s.params.tryLimit ≤ hd.tries + 1) :
    assignTryFailed hd s =
      heldReleased { s with barred := if hd.kind = .new then barredWith hd.addr s.barred else s.barred } := by
  rw [assignTryFailed, if_neg (ne_true_of_eq_false hg), if_neg (Nat.not_lt.2 hl), barHeld_eq, dropHeld_eq]

/-- R115: a READOPT whose record is gone is dropped at once. -/
theorem assignTryFailed_gone (hg : heldGone hd s = true) : assignTryFailed hd s = heldReleased s := by
  rw [assignTryFailed, if_pos hg, dropHeld_eq]

/-- R68: what an unanswered or garbled call adds to the counters. -/
theorem countOutcome_failed (garbled : Bool) (hc : t.call ≠ .probe) (s : State) :
    countOutcome t.call (if garbled then .garbled else .unanswered) s = { s with
      counters := if garbled then { s.counters with answersGarbled := min (s.counters.answersGarbled + 1) 65535 }
        else { s.counters with callsUnanswered := min (s.counters.callsUnanswered + 1) 65535 } } := by
  cases garbled with
  | true => exact countOutcome_garbled hc s
  | false => exact countOutcome_unanswered hc s

/-- Settles O47: the call is counted, and its owner retries it or gives it up. -/
theorem failedNodeCallsAreRetriedToTheLimit : Obligations.FailedNodeCallsAreRetriedToTheLimit := by
  intro garbled rx c n hd t s hr he ht hways u
  have ended : t.call ≠ .fetch → exec c s =
      .next (kickTx (settled (reportEnd t (if garbled then .garbled else .unanswered) (txnOver s)))) := by
    intro hc
    obtain ⟨rfl, rfl, hh⟩ | ⟨rfl, hw⟩ | ⟨rfl, hw⟩ := hways
    · exact exec_replyWindowExpiry hr he ht hh
    · exact exec_garbled (rx := rx) hr he ht hc (.inr hw)
    · exact exec_garbled hr he ht hc (.inl hw)
  have counted : t.call ≠ .probe → countOutcome t.call (if garbled then .garbled else .unanswered) (txnOver s) = u :=
    fun hc => countOutcome_failed garbled hc (txnOver s)
  have assigned : t.entry = .sift → t.call = .assign → t.probed = none → s.sift.held = some hd →
      exec c s = .next (kickTx (settled (assignTryFailed hd u))) := by
    intro hentry hc hb hh
    have hu := counted (by rw [hc]; exact nofun)
    rw [ended (by rw [hc]; exact nofun), reportEnd_assign hentry hb (by rw [hu]; exact hh), hu, endAssign]
    cases garbled <;> rfl
  refine ⟨fun hentry hc => ?ping, fun hentry hc hn => ?dismiss, fun hentry hc hb hh => ⟨fun hk => ?stands, fun hk hn => ?gone⟩⟩
  case ping =>
    rw [ended (by rw [hc]; exact nofun), reportEnd_recall hentry, counted (by rw [hc]; exact nofun), endPing, if_neg]
    cases garbled <;> exact nofun
  case dismiss =>
    intro silence
    let silent := updNode n.addr (fun m => { m with silence := silence }) u
    have fails : exec c s = .next (kickTx (settled (dismissTryFailed n.addr silent))) := by
      rw [ended (by rw [hc]; exact nofun), reportEnd_dismiss hentry, counted (by rw [hc]; exact nofun),
        endDismiss_failed garbled (by exact hn)]
    have found : findNode n.addr silent = some { n with silence := silence } := findNode_updNode (fun _ => rfl) hn
    refine ⟨fun hl hd => ?_, fun hl => ?_⟩
    · have merged := updNode_updNode (f := fun m : Node => { m with silence := silence })
        (g := fun m => { m with dismissTries := n.dismissTries + 1 }) n.addr
        { u with due := s.due ++ if s.loop = .running then [.dismiss n.addr] else [] } fun _ => rfl
      rw [fails, dismissTryFailed_retries found hl hd]
      exact congrArg (fun v => Host.Outcome.next (kickTx (settled v))) merged
    · rw [fails, dismissTryFailed_gives_up found hl, loseNode_silent, handlesOf, List.map_map]
      rfl
  case stands =>
    have gone : heldGone hd u = false := heldGone_of_stands hk
    refine ⟨fun hl hd => ?_, fun hl hnb => ⟨_, ?_, by rw [assigned hentry hc hb hh, assignTryFailed_gives_up gone hl]⟩⟩
    · rw [assigned hentry hc hb hh, assignTryFailed_retries gone hl hd]
      rfl
    · by_cases hk : hd.kind = .new
      · rw [if_pos hk, if_pos hk, barredWith, if_neg (by exact hnb)]
        exact insertBy_perm id hd.addr s.barred
      · rw [if_neg hk, if_neg hk]
        exact List.Perm.refl _
  case gone => rw [assigned hentry hc hb hh, assignTryFailed_gone (s := u) (heldGone_of_gone hk hn)]

end Sys2Proof.Machine
end

section
/-! The line fault (R79, R133, R134): what the abandonment of the transaction leaves, and the stop that follows. -/

set_option Elab.async false

namespace Sys2Proof.Machine

variable {s u v : State} {p : Pipe} {t : Transaction} {call : CallKind}

/-! ## What stands by -/

/-- What the abandonment of a transaction does not touch: the counters, the loop state, the parameters, the recall
countdown, the Host Port's lines and slot, and the addresses of the node table. -/
def bystanders (s : State) :
    Counters × LoopState × Params × Nat × Receiver × Option TxFrame × Option Reply × HostRate × List Nat :=
  (s.counters, s.loop, s.params, s.recallCountdown, s.rx, s.tx, s.refusal, s.hostRate, s.nodes.map (·.addr))

/-- The bystanders are as they were, and no handle is new. -/
structure Undisturbed (s u : State) : Prop where
  bystanders : bystanders u = bystanders s
  handles : (u.pipes.map (·.handle)).Sublist (s.pipes.map (·.handle))

theorem Undisturbed.refl (s : State) : Undisturbed s s := ⟨rfl, List.Sublist.refl _⟩

theorem Undisturbed.trans (h : Undisturbed s u) (h' : Undisturbed u v) : Undisturbed s v :=
  ⟨h'.bystanders.trans h.bystanders, h'.handles.trans h.handles⟩

/-- A change of anything else. -/
theorem Undisturbed.of (hb : Machine.bystanders u = Machine.bystanders s) (hp : u.pipes = s.pipes) : Undisturbed s u :=
  ⟨hb, hp ▸ List.Sublist.refl _⟩

theorem undisturbed_ite {c : Prop} [Decidable c] (hu : c → Undisturbed s u) (hv : ¬c → Undisturbed s v) :
    Undisturbed s (if c then u else v) := by
  split
  · exact hu ‹_›
  · exact hv ‹_›

theorem undisturbed_forEach {α : Type} {f : α → State → State} (h : ∀ x s, Undisturbed s (f x s)) (xs : List α) (s : State) :
    Undisturbed s (forEach f xs s) :=
  forEach_keeps (P := Undisturbed s) (fun x _ hu => hu.trans (h x _)) xs (.refl s)

/-- R155, R157: a notice asked for touches the Notice Unit alone. -/
theorem notify_touches (b : NoticeBody) (s : State) :
    ∃ notices next missed, notify b s = { s with notices := notices, nextNumber := next, missed := missed } := by
  unfold notify
  split
  · exact ⟨_, _, _, rfl⟩
  · exact ⟨_, _, _, rfl⟩

theorem undisturbed_notify (b : NoticeBody) (s : State) : Undisturbed s (notify b s) := by
  obtain ⟨_, _, _, he⟩ := notify_touches b s
  exact he ▸ .of rfl rfl

theorem undisturbed_answerDeferred (w : Waits) (code : Code) (fields : ReplyFields) (s : State) :
    Undisturbed s (answerDeferred w code fields s) := by
  obtain ⟨_, _, _, _, he⟩ := answerDeferred_touches w code fields s
  exact he ▸ .of rfl rfl

theorem undisturbed_updPipe {f : Pipe → Pipe} (h : Nat) (s : State) (hf : ∀ q, (f q).handle = q.handle) :
    Undisturbed s (updPipe h f s) := by
  have same : ((updPipe h f s).pipes.map (·.handle)) = s.pipes.map (·.handle) := map_updFirst _ f (·.handle) hf s.pipes
  exact ⟨rfl, same ▸ List.Sublist.refl _⟩

theorem undisturbed_updNode {f : Node → Node} (a : Nat) (s : State) (hf : ∀ m, (f m).addr = m.addr) :
    Undisturbed s (updNode a f s) := by
  have same : ((updNode a f s).nodes.map (·.addr)) = s.nodes.map (·.addr) := map_updFirst _ f (·.addr) hf s.nodes
  refine .of ?_ rfl
  unfold bystanders
  rw [same]
  rfl

/-- R37: a close takes its pipe's record out. -/
theorem undisturbed_closed (h : Nat) (queue : List Block) (s : State) : Undisturbed s (closed h queue s) := by
  have erased : Undisturbed s { s with
      pipes := s.pipes.eraseP fun q => q.handle == h, free := s.free ++ queue.map Block.release } :=
    ⟨rfl, List.eraseP_sublist.map _⟩
  exact (erased.trans (undisturbed_forEach undisturbed_notify _ _)).trans (undisturbed_answerDeferred _ _ _ _)

/-! ## The abandonment -/

theorem undisturbed_completeClose (h : Nat) (s : State) : Undisturbed s (completeClose h s) := by
  cases hp : findPipe h s with
  | none =>
    rw [completeClose, hp]
    exact .refl s
  | some p => exact completeClose_eq hp ▸ undisturbed_closed h p.queue s

theorem undisturbed_catchToFree (s : State) : Undisturbed s (catchToFree s) := catchToFree_eq s ▸ .of rfl rfl

theorem undisturbed_catchToQueue (h : Nat) (s : State) : Undisturbed s (catchToQueue h s) := by
  unfold catchToQueue
  split
  · next b q _ _ =>
    have emptied : Undisturbed s { s with catchSlot := none } := .of rfl rfl
    exact emptied.trans (undisturbed_updPipe h _ fun _ => rfl)
  · exact .of rfl rfl
  · exact .refl s

theorem undisturbed_reportWaiting (h : Nat) (s : State) : Undisturbed s (reportWaiting h s) := by
  unfold reportWaiting
  split
  · exact undisturbed_ite (fun _ => .refl s) fun _ => undisturbed_ite
      (fun _ => (undisturbed_updPipe h s (by exact fun _ => rfl)).trans (undisturbed_notify _ _)) fun _ => undisturbed_notify _ _
  · exact .refl s

/-- R66, R79: what an accepted DATA or an abandoned call leaves of a pipe and its node. -/
theorem undisturbed_endPipeTxn {e : TxnEnd} (he : e = .accepted ∨ e = .abandoned) (h : Nat) (call : CallKind) (s : State) :
    Undisturbed s (endPipeTxn h call e s) := by
  have block : Undisturbed s (settleBlock h call e s) := by
    cases call with
    | fetch => exact undisturbed_ite (fun _ => undisturbed_catchToQueue h s) fun _ => undisturbed_catchToFree s
    | deliver =>
      rw [settleBlock, if_neg (by obtain rfl | rfl := he <;> exact nofun)]
      exact undisturbed_updPipe h s fun _ => rfl
    | _ => exact .refl s
  cases hp : findPipe h s with
  | none =>
    rw [endPipeTxn, hp]
    exact undisturbed_catchToFree s
  | some p =>
    have silence : ∀ u, Undisturbed u (settleSilence p.node e u) := fun u => by
      obtain rfl | rfl := he
      · exact undisturbed_updNode p.node u fun _ => rfl
      · exact .refl u
    have record : ∀ lost u, Undisturbed u (settlePipe h call e lost u) := fun lost u => by
      obtain rfl | rfl := he
      · exact (undisturbed_updPipe h u (by exact fun _ => rfl)).trans (undisturbed_reportWaiting h _)
      · exact .refl u
    rw [endPipeTxn, hp]
    exact (block.trans (silence _)).trans
      (undisturbed_ite (fun _ => undisturbed_completeClose h _) fun _ => record _ _)

/-- R118: an abandoned ASSIGN. -/
theorem assignAbandoned_eq (hd : Held) (s : State) : assignAbandoned hd s = { s with
    barred := if hd.kind = .new then barredWith hd.addr s.barred else s.barred
    sift := { s.sift with held := none, unassigned := min (s.sift.unassigned + 1) 255 } } := by
  rw [assignAbandoned, barHeld_eq]
  rfl

theorem undisturbed_endAssign {e : TxnEnd} (he : e = .accepted ∨ e = .abandoned) (hd : Held) (s : State) :
    Undisturbed s (endAssign hd e s) := by
  obtain rfl | rfl := he
  · exact .refl s
  · have abandoned : endAssign hd .abandoned s = assignAbandoned hd s := rfl
    rw [abandoned, assignAbandoned_eq]
    exact .of rfl rfl

/-- R66, R79: the owners of any call. -/
theorem undisturbed_reportEnd {e : TxnEnd} (he : e = .accepted ∨ e = .abandoned) (t : Transaction) (s : State) :
    Undisturbed s (reportEnd t e s) := by
  have uncounted : countOutcome t.call e s = s :=
    countOutcome_other (by obtain rfl | rfl := he <;> exact nofun) (by obtain rfl | rfl := he <;> exact nofun) s
  rw [reportEnd, uncounted]
  split
  · exact undisturbed_endPipeTxn he _ t.call s
  · obtain rfl | rfl := he <;> exact .refl s
  · obtain rfl | rfl := he <;> exact .refl s
  · unfold endSiftCall
    split
    · obtain rfl | rfl := he <;> exact .refl s
    · exact undisturbed_endAssign he _ s
    · exact .refl s

/-- R79: an accepted DATA stands, and nothing else does. -/
theorem abandonedEnd_cases (t : Transaction) : abandonedEnd t = .accepted ∨ abandonedEnd t = .abandoned := by
  unfold abandonedEnd
  split
  · next v _ => cases v.accepted <;> simp
  · exact .inr rfl

/-- R79: with nothing in flight the engine goes to IDLE. -/
theorem abandonTxn_none (ht : s.txn = none) : abandonTxn s = { s with engine := .idle, txn := none, loopTx := none } := by
  rw [abandonTxn, ht]

/-- R79: the transaction in flight is abandoned, an answer being received cut off. -/
theorem abandonTxn_some (ht : s.txn = some t) : abandonTxn s =
    reportEnd t (abandonedEnd t) (if t.verdict = none then cutOff t { s with engine := .idle, txn := none, loopTx := none }
      else { s with engine := .idle, txn := none, loopTx := none }) := by
  rw [abandonTxn, ht]
  rfl

theorem undisturbed_abandonTxn (s : State) : Undisturbed s (abandonTxn s) := by
  have idled : Undisturbed s { s with engine := .idle, txn := none, loopTx := none } := .of rfl rfl
  cases ht : s.txn with
  | none => exact abandonTxn_none ht ▸ idled
  | some t =>
    have cut : Undisturbed s (cutOff t { s with engine := .idle, txn := none, loopTx := none }) := by
      obtain ⟨slot, draws, hk⟩ := cutOff_keeps t { s with engine := .idle, txn := none, loopTx := none }
      exact hk ▸ .of rfl rfl
    rw [abandonTxn_some ht]
    exact (undisturbed_ite (fun _ => cut) fun _ => idled).trans (undisturbed_reportEnd (abandonedEnd_cases t) t _)

/-- R62, R79: the engine is IDLE with nothing in flight. -/
theorem abandonTxn_idle (s : State) : (abandonTxn s).engine = .idle ∧ (abandonTxn s).txn = none := by
  have reported : ∀ t e u, u.engine = .idle → u.txn = none →
      (reportEnd t e u).engine = .idle ∧ (reportEnd t e u).txn = none := fun t e u he ht => by
    have hc := (reportEnd_moves (run := True) trivial t e u).control
    simp only [control, Prod.mk.injEq] at hc
    obtain ⟨-, -, -, heng, htxn, -⟩ := hc
    exact ⟨heng.trans he, htxn.trans ht⟩
  cases ht : s.txn with
  | none => exact abandonTxn_none ht ▸ ⟨rfl, rfl⟩
  | some t =>
    rw [abandonTxn_some ht]
    obtain ⟨slot, draws, hk⟩ := cutOff_keeps t { s with engine := .idle, txn := none, loopTx := none }
    split
    · exact reported _ _ _ (by rw [hk]) (by rw [hk])
    · exact reported _ _ _ rfl rfl

/-! ## The stop -/

theorem undisturbed_clearAndSettle (s : State) : Undisturbed s (clearAndSettle s) := by
  have dropped : ∀ e u, Undisturbed u (dropDueEntry e u) := fun e u => by
    unfold dropDueEntry
    split
    · exact undisturbed_updPipe _ u fun _ => rfl
    · exact .refl u
    · exact .refl u
    · exact .refl u
  have cancelled : ∀ a u, Undisturbed u (cancelDismissal a u) := fun a u =>
    (undisturbed_updNode a u (by exact fun _ => rfl)).trans (undisturbed_answerDeferred _ _ _ _)
  have emptied : Undisturbed s { s with due := [] } := .of rfl rfl
  exact (emptied.trans (undisturbed_forEach dropped _ _)).trans (undisturbed_forEach cancelled _ _)

theorem undisturbed_siftCancelled (s : State) : Undisturbed s (siftCancelled s) := by
  unfold siftCancelled
  refine undisturbed_ite (fun _ => .refl s) fun _ => ?_
  split
  · have ended : Undisturbed s { s with
        due := s.due.filter fun e => e ≠ .sift, sift := { s.sift with state := .idle, stack := [], held := none } } := .of rfl rfl
    exact ended.trans (undisturbed_answerDeferred _ _ _ _)
  · next hd _ =>
    let u : State := { s with
      barred := if hd.kind = .new ∧ 0 < hd.tries then barredWith hd.addr s.barred else s.barred
      sift := { s.sift with unassigned := min (s.sift.unassigned + 1) 255 } }
    have ended : Undisturbed s { u with
        due := u.due.filter fun e => e ≠ .sift, sift := { u.sift with state := .idle, stack := [], held := none } } := .of rfl rfl
    exact ended.trans (undisturbed_answerDeferred _ _ _ _)

/-- R100: no node is left DISMISSING. -/
theorem clearAndSettle_none_dismissing (hn : (s.nodes.map (·.addr)).Nodup) :
    ∀ n ∈ (clearAndSettle s).nodes, n.state ≠ .dismissing := by
  have cleared : (clearDue s).nodes = s.nodes :=
    forEach_keeps (P := fun u => u.nodes = s.nodes) (fun e u hu => by cases e <;> exact hu) s.due rfl
  have settled_ : clearAndSettle s = dismissalsSettled (clearDue s) := settleDismissals_eq _ (by rw [cleared]; exact hn)
  have nodes : (clearAndSettle s).nodes = s.nodes.map fun n =>
      if n.state = .dismissing then { n with state := .enrolled, dismissTries := 0 } else n := by
    rw [settled_, dismissalsSettled, ← cleared]
    exact forEach_keeps (P := fun u => u.nodes = (clearDue s).nodes.map fun n =>
      if n.state = .dismissing then { n with state := .enrolled, dismissTries := 0 } else n) (fun a u hu => by
        obtain ⟨_, _, _, _, he⟩ := answerDeferred_touches (.dismiss a) .cancelled (.dismissNode 0) u
        rw [he]
        exact hu) _ rfl
  rw [nodes]
  intro n hmem
  obtain ⟨m, -, rfl⟩ := List.mem_map.1 hmem
  split
  · exact nofun
  · assumption

/-- R121, R134: the answer to the request in the slot and the report of the fault. -/
theorem reportFault_touches (during : LoopState) (code : Code) (s : State) :
    ∃ window recent free queue notices next missed, reportFault during (answerSlot code s) = { s with
      loopSlot := none, window := window, recent := recent, free := free, replyQueue := queue, notices := notices
      nextNumber := next, missed := missed
      counters := { s.counters with lineFaults := min (s.counters.lineFaults + 1) 65535 } } := by
  have slot : ∃ window recent free queue, answerSlot code s = { s with
      loopSlot := none, window := window, recent := recent, free := free, replyQueue := queue } := by
    unfold answerSlot
    split
    · exact answerDeferred_touches _ _ _ _
    · next h => exact ⟨_, _, _, _, by rw [← h]⟩
  obtain ⟨_, _, _, _, hs⟩ := slot
  rw [hs, reportFault]
  obtain ⟨_, _, _, hn⟩ := notify_touches (.lineFault during) _
  rw [hn]
  exact ⟨_, _, _, _, _, _, _, rfl⟩

/-- R133: the fault is taken while the dominant timer runs. -/
theorem exec_lineFault (hr : s.rstHigh = true) : exec .lineFault s = .next (kickTx (takeLineFault s)) := live_high hr

/-- R56, R100, R117: the first steps leave nothing of the loop's work and disturb no bystander. -/
theorem siftCancelled_after_fault (hn : (s.nodes.map (·.addr)).Nodup) :
    let w := siftCancelled (clearAndSettle (abandonTxn s))
    (w.engine = .idle ∧ w.txn = none ∧ w.due = [] ∧ w.sift.state = .idle ∧ ∀ n ∈ w.nodes, n.state ≠ .dismissing) ∧
      bystanders w = bystanders s := by
  intro w
  have abandoned := undisturbed_abandonTxn s
  have addrs : ((abandonTxn s).nodes.map (·.addr)).Nodup := by
    have same := abandoned.bystanders
    simp only [bystanders, Prod.mk.injEq] at same
    obtain ⟨-, -, -, -, -, -, -, -, haddr⟩ := same
    rw [haddr]
    exact hn
  have control : control w = control (abandonTxn s) :=
    (siftCancelled_control _).trans (clearAndSettle_moves (run := False) _).control
  simp only [Machine.control, Prod.mk.injEq] at control
  obtain ⟨-, -, -, hengine, htxn, -⟩ := control
  have idle : w.sift.state = .idle :=
    (congrArg (·.sift.state) (cancelSift_eq (clearAndSettle (abandonTxn s)))).symm.trans (cancelSift_idle _)
  have due : w.due = [] :=
    (siftCancelled_moves (run := False) _).keeps (I := fun v => v.due = []) (fun hm => hm.due_nil id) (clearAndSettle_due _)
  have nodes : ∀ n ∈ w.nodes, n.state ≠ .dismissing := by
    rw [(siftCancelled_tables _).2]
    exact clearAndSettle_none_dismissing addrs
  exact ⟨⟨hengine.trans (abandonTxn_idle s).1, htxn.trans (abandonTxn_idle s).2, due, idle, nodes⟩,
    ((abandoned.trans (undisturbed_clearAndSettle _)).trans (undisturbed_siftCancelled _)).bystanders⟩

/-- R134: the six steps. -/
theorem takeLineFault_steps (hd : s.domTimer = true) : takeLineFault s =
    reportFault s.loop (answerSlot .lineFault (stopForFault (siftCancelled (clearAndSettle (abandonTxn s))))) := by
  rw [takeLineFault, if_pos hd, cancelSift_eq]

/-- R134: what the six steps leave of a part whose loop ran. -/
theorem takeLineFault_stops (hd : s.domTimer = true) (hn : (s.nodes.map (·.addr)).Nodup) :
    let u := takeLineFault s
    u.loop = .stopped ∧ u.engine = .idle ∧ u.txn = none ∧ u.due = [] ∧
      u.sift.state = .idle ∧ u.roundTimer = false ∧ u.domTimer = false ∧ u.phase = .quiet ∧ u.loopTx = none ∧
      u.drainTarget = none ∧
      u.resume = false ∧ u.loopSlot = none ∧ (∀ n ∈ u.nodes, n.state ≠ .dismissing) ∧
      u.counters = { s.counters with lineFaults := min (s.counters.lineFaults + 1) 65535 } ∧
      u.params = s.params ∧ u.recallCountdown = s.recallCountdown ∧ u.rx = s.rx ∧ u.tx = s.tx ∧
      u.refusal = s.refusal ∧ u.hostRate = s.hostRate := by
  obtain ⟨⟨hengine, htxn, due, idle, nodes⟩, stands⟩ := siftCancelled_after_fault hn
  rw [takeLineFault_steps hd]
  generalize siftCancelled (clearAndSettle (abandonTxn s)) = w at *
  simp only [bystanders, Prod.mk.injEq] at stands
  obtain ⟨hcounters, -, hparams, hrecall, hrx, htx, hrefusal, hrate, -⟩ := stands
  obtain ⟨_, _, _, _, _, _, _, he⟩ := reportFault_touches s.loop .lineFault (stopForFault w)
  rw [he]
  exact ⟨rfl, hengine, htxn, due, idle, rfl, rfl, rfl, rfl, rfl, rfl, rfl, nodes, by rw [← hcounters]; rfl, hparams,
    hrecall, hrx, htx, hrefusal, hrate⟩

/-! ## The abandonment, by what was in flight -/

/-- R134: the fault, once the abandonment is known. -/
theorem exec_lineFault_stops (hr : s.rstHigh = true) (hd : s.domTimer = true) (hn : (s.nodes.map (·.addr)).Nodup)
    (hp : (s.pipes.map (·.handle)).Nodup) (ha : abandonTxn s = u) : exec .lineFault s = .next (kickTx (faultStops u)) := by
  obtain ⟨same, handles⟩ := undisturbed_abandonTxn s
  simp only [bystanders, Prod.mk.injEq] at same
  obtain ⟨-, hloop, -, -, -, -, -, -, haddr⟩ := same
  rw [exec_lineFault hr, takeLineFault_eq hd hloop (handles.nodup hp) (by rw [haddr]; exact hn), ha]

/-- R57, R79: the abandoned transaction of a pipe gives its block back. -/
theorem endPipeTxn_abandoned (hp : findPipe p.handle s = some p) : endPipeTxn p.handle call .abandoned s =
    if p.state = .closing then closed p.handle p.queue (blockReturned p call s) else blockReturned p call s :=
  endPipeTxn_returned (by decide) (by decide) hp

/-- R79: a DATA that was not accepted does not stand. -/
theorem abandonedEnd_abandoned (hv : ∀ v ∈ t.verdict, v.accepted = false) : abandonedEnd t = .abandoned := by
  unfold abandonedEnd
  split
  · next v h => exact if_neg (by rw [hv v h]; exact nofun)
  · rfl

/-- R79: an accepted one does. -/
theorem abandonedEnd_accepted {seq : Bool} (hv : t.verdict = some ⟨true, seq⟩) : abandonedEnd t = .accepted := by
  rw [abandonedEnd, hv]
  rfl

/-- R79: a pipe's transaction abandoned with no accepted DATA. -/
theorem abandonTxn_pipe (ht : s.txn = some t) (hc : CallOn p call t) (hp : findPipe p.handle s = some p)
    (hv : ∀ v ∈ t.verdict, v.accepted = false) :
    let gone := { s with engine := .idle, txn := none, loopTx := none }
    let back := blockReturned p call (if t.verdict = none then cutOff t gone else gone)
    abandonTxn s = if p.state = .closing then closed p.handle p.queue back else back := by
  intro gone back
  have found : findPipe p.handle (if t.verdict = none then cutOff t gone else gone) = some p := by
    obtain ⟨slot, draws, hk⟩ := cutOff_keeps t gone
    rw [hk]
    split <;> exact hp
  rw [abandonTxn_some ht, abandonedEnd_abandoned hv, reportEnd_pipe hc, countOutcome_other (e := .abandoned) nofun nofun,
    endPipeTxn_abandoned found]

/-- R79: a call on no pipe leaves nothing, but for an ASSIGN. -/
theorem reportEnd_abandoned {a : Nat} (he : t.entry = .recall a ∨ t.entry = .dismiss a ∨ t.entry = .sift ∧ t.probed ≠ none) :
    reportEnd t .abandoned s = s := by
  rw [reportEnd, countOutcome_other (e := .abandoned) nofun nofun]
  obtain he | he | ⟨he, hb⟩ := he
  · rw [he]
    rfl
  · rw [he]
    rfl
  · obtain ⟨b, hb⟩ := Option.ne_none_iff_exists'.1 hb
    rw [he]
    dsimp only
    rw [endSiftCall, hb]
    rfl

/-- Settles O51: the six steps after the abandonment, and the abandonment by what was in flight. -/
theorem lineFaultStopsTheLoop : Obligations.LineFaultStopsTheLoop := by
  intro s hr
  refine ⟨fun hd => ?untimed, fun hd hn => ⟨_, exec_lineFault hr, takeLineFault_stops hd hn⟩,
    fun hd ht hs hl hn hp => ?calm, fun hd hn hp => ?flight⟩
  case untimed => rw [exec_lineFault hr, takeLineFault, if_neg (ne_true_of_eq_false hd)]
  case calm =>
    rw [exec_lineFault hr, takeLineFault_steps hd, abandonTxn_none ht, clearAndSettle_calm (by exact hp) (by exact hn),
      siftCancelled_idle (by exact hs), answerSlot, stopForFault]
    dsimp only
    rw [hl, ht]
    rfl
  case flight =>
    intro gone
    have uncut : ∀ t : Transaction, t.verdict = none → t.call ≠ .fetch →
        (if t.verdict = none then cutOff t gone else gone) = gone := fun t hv hc => by
      rw [if_pos hv, cutOff, if_neg fun h => hc h.1]
    refine ⟨fun ht => ?none, fun p call t ht hc hk hf => ⟨fun hv => ?returned, fun b seq hcall hv hb => ?stands⟩,
      fun a t ht hv hc he => ?node, fun hd' t ht hv hc he hb hh => ?assign⟩
    case none => exact exec_lineFault_stops hr hd hn hp (abandonTxn_none ht)
    case returned =>
      have back := abandonTxn_pipe ht hc hf hv
      exact ⟨fun hs => exec_lineFault_stops hr hd hn hp (back.trans (if_neg hs)),
        fun hs => exec_lineFault_stops hr hd hn hp (back.trans (if_pos hs))⟩
    case stands =>
      subst hcall
      have stood : abandonTxn s = endPipeTxn p.handle .fetch .accepted gone := by
        rw [abandonTxn_some ht, abandonedEnd_accepted hv, if_neg (by rw [hv]; exact nofun), reportEnd_pipe hc,
          countOutcome_other (e := .accepted) nofun nofun]
      rw [endPipeTxn_accepted (by exact hf) (by exact hb)] at stood
      exact ⟨fun hs => exec_lineFault_stops hr hd hn hp (stood.trans (if_neg hs)),
        fun hs => exec_lineFault_stops hr hd hn hp (stood.trans (if_pos hs))⟩
    case node =>
      refine exec_lineFault_stops hr hd hn hp ?_
      rw [abandonTxn_some ht, abandonedEnd_abandoned (by rw [hv]; exact nofun), uncut t hv hc, reportEnd_abandoned he]
    case assign =>
      refine exec_lineFault_stops hr hd hn hp ?_
      have uncounted := countOutcome_other (call := t.call) (e := .abandoned) nofun nofun gone
      rw [abandonTxn_some ht, abandonedEnd_abandoned (by rw [hv]; exact nofun), uncut t hv (by rw [hc]; exact nofun),
        reportEnd_assign he hb (hd := hd') (by rw [uncounted]; exact hh), uncounted]
      exact assignAbandoned_eq hd' gone

end Sys2Proof.Machine
end

section
/-! The loop receiver (R61, R69, R173): a frame is read exactly where its encoding begins what was heard. -/

set_option Elab.async false

namespace Sys2Proof.Machine

variable {rx : LoopRx} {f : LoopFrame} {type addr pipeSeq len : Byte} {rest : List Byte}

/-- R173: a payload's length is carried whole. -/
theorem toNat_byteOf_length {payload : List Byte} (h : payload.length ≤ 64) : (byteOf payload.length).toNat = payload.length := by
  simp only [byteOf, BitVec.toNat_ofNat]
  omega

/-- A byte is the byte of its value. -/
theorem byteOf_toNat (b : Byte) : byteOf b.toNat = b := BitVec.ofNat_toNat 8 b |>.trans (BitVec.setWidth_eq b)

/-- R61: the bytes of a frame have valid stop bits. -/
theorem faultWithin_eq_false {n : Nat} : faultWithin n rx = false ↔ ∀ k ∈ rx.stopFault, n ≤ k := by
  unfold faultWithin
  cases rx.stopFault <;> simp

/-- R61: the receiver's checks of a frame of at least 4 bytes. -/
theorem readLoop_eq_some (hb : rx.bytes = type :: addr :: pipeSeq :: len :: rest) : readLoop rx = some f ↔
    (∀ k ∈ rx.stopFault, len.toNat + 6 ≤ k) ∧ len.toNat ≤ 64 ∧ len.toNat + 2 ≤ rest.length ∧
      bytesOfCheck (crcOf (type :: addr :: pipeSeq :: len :: rest.take len.toNat)) = (rest.drop len.toNat).take 2 ∧
      f = ⟨type, addr, pipeSeq, rest.take len.toNat⟩ := by
  rw [readLoop, hb]
  dsimp only
  by_cases hbad : faultWithin (len.toNat + 6) rx ∨ Config.blockPayload < len.toNat ∨ rest.length < len.toNat + 2
  · rw [if_pos hbad]
    refine ⟨nofun, fun ⟨hs, hl, hr, _⟩ => ?_⟩
    obtain hf | hf | hf := hbad
    · exact absurd hf (ne_true_of_eq_false (faultWithin_eq_false.2 hs))
    · exact absurd hl (Nat.not_le.2 hf)
    · exact absurd hr (Nat.not_le.2 hf)
  · rw [if_neg hbad]
    simp only [not_or, Nat.not_lt, Bool.not_eq_true] at hbad
    obtain ⟨hs, hl, hr⟩ := hbad
    have sound : (∀ k ∈ rx.stopFault, len.toNat + 6 ≤ k) ∧ len.toNat ≤ 64 ∧ len.toNat + 2 ≤ rest.length :=
      ⟨faultWithin_eq_false.1 hs, hl, hr⟩
    by_cases hc : bytesOfCheck (crcOf (type :: addr :: pipeSeq :: len :: rest.take len.toNat)) = (rest.drop len.toNat).take 2
    · rw [if_pos hc, Option.some_inj]
      exact ⟨fun he => ⟨sound.1, sound.2.1, sound.2.2, hc, he.symm⟩, fun h => h.2.2.2.2.symm⟩
    · rw [if_neg hc]
      exact ⟨nofun, fun h => absurd h.2.2.2.1 hc⟩

/-- R61: fewer than 4 bytes are no frame. -/
theorem four_bytes_of_readLoop (h : readLoop rx = some f) :
    ∃ type addr pipeSeq len rest, rx.bytes = type :: addr :: pipeSeq :: len :: rest := by
  unfold readLoop at h
  split at h
  · next hb => exact ⟨_, _, _, _, _, hb⟩
  · cases h

/-- R61, R173: an encoded frame of valid bytes is read, whatever follows it. -/
theorem readLoop_encodeLoop (tail : List Byte) (hl : f.payload.length ≤ 64) (hb : rx.bytes = encodeLoop f ++ tail)
    (hs : ∀ k ∈ rx.stopFault, f.payload.length + 6 ≤ k) : readLoop rx = some f := by
  have hlen := toNat_byteOf_length hl
  have check : (bytesOfCheck (crcOf (loopCovered f))).length = 2 := rfl
  refine (readLoop_eq_some (type := f.type) (addr := f.addr) (pipeSeq := f.pipeSeq) (len := byteOf f.payload.length)
    (rest := f.payload ++ (bytesOfCheck (crcOf (loopCovered f)) ++ tail)) ?_).2 ?_
  · rw [hb, encodeLoop, List.append_assoc]
    rfl
  · rw [hlen, List.take_left, List.drop_left, List.take_left' check]
    refine ⟨hs, hl, ?_, rfl, rfl⟩
    simp only [List.length_append, check]
    omega

/-- R61, R173: what is read is an encoded frame of valid bytes. -/
theorem encodeLoop_of_readLoop (h : readLoop rx = some f) : f.payload.length ≤ 64 ∧
    (∃ tail, rx.bytes = encodeLoop f ++ tail) ∧ ∀ k ∈ rx.stopFault, f.payload.length + 6 ≤ k := by
  obtain ⟨type, addr, pipeSeq, len, rest, hb⟩ := four_bytes_of_readLoop h
  obtain ⟨hs, hl, hr, hc, rfl⟩ := (readLoop_eq_some hb).1 h
  have length : (rest.take len.toNat).length = len.toNat := List.length_take_of_le (Nat.le_of_add_right_le hr)
  dsimp only
  rw [length]
  refine ⟨hl, ⟨rest.drop (len.toNat + 2), ?_⟩, hs⟩
  have parts : rest = rest.take len.toNat ++ ((rest.drop len.toNat).take 2 ++ rest.drop (len.toNat + 2)) := by
    rw [← List.drop_drop, List.take_append_drop, List.take_append_drop]
  rw [hb, encodeLoop, loopCovered]
  dsimp only
  rw [length, byteOf_toNat, hc]
  simp only [List.cons_append, List.append_assoc]
  rw [← parts]

/-- Settles O36: reading is the inverse of encoding, and the bytes stored are read off LEN. -/
theorem loopFrameIsReadAsItWasSent : Obligations.LoopFrameIsReadAsItWasSent := by
  refine fun rx f => ⟨⟨encodeLoop_of_readLoop, fun ⟨hl, ⟨tail, hb⟩, hs⟩ => readLoop_encodeLoop tail hl hb hs⟩, ?_⟩
  intro type addr pipeSeq len rest hb
  rw [hb]
  rfl

end Sys2Proof.Machine
end
